-- ==== Sys2Proof/Word.lean ====
section
/-! DEFINITION. The words that cross the selector port and the numbering of the part's repeated blocks (spec/00_scope.md,
"Conventions"; spec/10_selector_port.md R160). -/

namespace Sys2Proof

/-- One byte of the selector port. -/
abbrev Byte := BitVec 8
/-- A two-byte field of the selector port. -/
abbrev Half := BitVec 16
/-- A 32-bit count that wraps: the time stamp (00, "Time") and the sync monitors' unit count (05 section 5.1). -/
abbrev Word := BitVec 32

/-- Ports 1 to 8 (00, "Numbering"): port n is index n - 1. -/
abbrev PortNo := Fin 8
/-- Stations 1 to 4, and so gates 1 to 4: station n is index n - 1. -/
abbrev Station := Fin 4
/-- Chutes 1 to 4: chute n is index n - 1. -/
abbrev ChuteNo := Fin 4
/-- Accounts 1 to 4: account n is index n - 1. -/
abbrev AccountNo := Fin 4
/-- Positions 1 to 4 of a board: position n is index n - 1. -/
abbrev Position := Fin 4
/-- Board coin lines 1 to 4: line n is index n - 1. -/
abbrev CoinLine := Fin 4
/-- A board's meter outputs METER 1 and METER 2, or its lockout outputs LOCKOUT 1 and LOCKOUT 2. -/
abbrev OutputNo := Fin 2
/-- The cabinet meters: index 0 is COINS, index 1 is PLAYS (10 section 10.5, READ STATUS order). -/
abbrev MeterNo := Fin 2
/-- A cabinet control, or a board control line, numbered 0 to 46 as 10 R160 numbers them. -/
abbrev Control := Fin 47

/-- The COINS meter. -/
def coinsMeter : MeterNo := 0
/-- The PLAYS meter. -/
def playsMeter : MeterNo := 1

end Sys2Proof
end

