-- ==== Sys2Proof/Config.lean ====
section
/-! DEFINITION. The figures the spec fixes for the part, and the values it leaves open as constants without a body. -/

namespace Sys2Proof.Config

/-- Ticks in one unit (00, "Money"). -/
def ticksPerUnit : Nat := 60
/-- The account cap in ticks (02 R18). -/
def cap : Nat := 15000
/-- Where a counter or a money total saturates (09 R142, R146). -/
def counterMax : Nat := 4294967295
/-- Records the event queue holds (11 R162). -/
def eventCapacity : Nat := 32
/-- Records one READ EVENTS removes at most (11 R165). -/
def eventBatch : Nat := 8
/-- A cabinet meter's greatest pending count (01 R13). -/
def meterMax : Nat := 255
/-- The jam-clear timer, ms (01 R6). -/
def jamClear : Nat := 1000
/-- The debounce time of a cabinet input and of the RESET pin, ms (07 R111, 03 R45). -/
def debounce : Nat := 5
/-- The discharge of a stopping port, ms (04 R70). -/
def discharge : Nat := 500
/-- Ports that may be POWERING at once (04 R62). -/
def powerSlots : Nat := 2
/-- The last-edge timer of a sync monitor, ms (05 R79). -/
def lastEdge : Nat := 250
/-- The width above which a pulse is vertical while no estimate is present, in units (05 R79). -/
def broadPulse : Nat := 128
/-- The horizontal pulses with no frame start that make an OVERLONG frame (05 R80). -/
def overlong : Nat := 1000
/-- The horizontal count from which a vertical pulse starts a frame (05 R81). -/
def frameStart : Nat := 100
/-- Where a measured line period is held (05 R81). -/
def periodMax : Nat := 65535
/-- Consistent frames that make a lock (05 R83). -/
def lockRun : Nat := 4
/-- Bad frames that make a loss (05 R84). -/
def lossRun : Nat := 8
/-- Consecutive misses that set CHECK (04 R75). -/
def missLimit : Nat := 3
/-- How long a meter output is active before a pulse is counted, ms (06 R98). -/
def meterActive : Nat := 10
/-- The attenuator's mute level (08, introduction). -/
def mute : Nat := 15
/-- Milliseconds in a second of SHOWN SECONDS (09 R143). -/
def second : Nat := 1000
/-- The bound on the placement of a response, ms (10 R152). -/
def placement : Nat := 2
/-- Bytes the receive frame holds (10 R151). -/
def frameBytes : Nat := 123
/-- The greatest length byte of a command frame (10 R151). -/
def lengthMax : Nat := 120

/-- FREE VALUE (log 3): which of the expiries due in one millisecond is taken next, for the n-th such choice. The spec
lets either be taken first and gives no order. -/
opaque dueChoice : Nat → Nat

/-- FREE VALUE (log 10): how many bytes were clocked out where no row of the table says it, for the n-th free choice: by a
fetch up to a warm reset in the middle of it, and by a dropped transaction after its first byte. -/
opaque bytesClocked : Nat → Nat

/-- FREE VALUE (log 15): which of several fields that fail one check together an INVALID answer names (10 R156), given
the payload of the frame. -/
opaque blamed : List Byte → Nat

/-- FREE VALUE (log 17): whether a guard's remaining milliseconds are rounded up to whole seconds in READ STATUS (06
R110 gives the unit and no rounding). -/
opaque guardRoundsUp : Nat → Bool

/-- FREE VALUE (log 18): what READ STATUS carries in the four bytes of a last-accepted end time that is absent (10 R160
codes absence for one-byte and two-byte fields only), for each chute and moment. -/
opaque absentEndTime : ChuteNo → Word → Word

end Sys2Proof.Config
end

