-- ==== Sys2Proof/Syntax.lean ====
section
/-! DEFINITION. The commands of the part: one constructor for each row of spec/opcode_table.json, with the row's operands,
and the code names of the commands that cross the selector port (10 section 10.4). -/

namespace Sys2Proof

/-- An input that is debounced: one of the 47 cabinet controls (07 R111) or the RESET pin (03 R45). -/
inductive DebouncedInput where
  | control (c : Control)
  | resetPin
  deriving DecidableEq, Repr

/-- The rows of spec/opcode_table.json, in its order. An operand named `held`, `active` or `asserted` is the level the
edge leads to. Payload operands are bytes as they stand in the frame (10 section 10.5). -/
inductive Instr where
  /-- POWER_ON_RESET (R42): `ports` and `bands` are the levels of the strap inputs, bit 0 the lowest place (R41); bit 0,
  1, 2 of `bands` are L, M, H. -/
  | powerOnReset (ports bands : BitVec 3)
  /-- RAW_INPUT_EDGE (R111). -/
  | rawInputEdge (input : DebouncedInput) (held : Bool)
  /-- DEBOUNCED_CHANGE (R112): the debounce timer of a cabinet control expires. -/
  | debouncedChange (control : Control)
  /-- RESET_PIN_ASSERTED (R45). -/
  | resetPinAsserted
  /-- WARM_RESET (R45): the warm reset of a RESTART that was taken. -/
  | warmReset
  /-- CHUTE_LEADING_EDGE (R2, R6). -/
  | chuteLeadingEdge (chute : ChuteNo)
  /-- CHUTE_TRAILING_EDGE (R3, R6). -/
  | chuteTrailingEdge (chute : ChuteNo)
  /-- MAX_WIDTH_EXPIRY (R5). -/
  | maxWidthExpiry (chute : ChuteNo)
  /-- GAP_TIMER_EXPIRY (R3). -/
  | gapTimerExpiry (chute : ChuteNo)
  /-- JAM_CLEAR_EXPIRY (R6). -/
  | jamClearExpiry (chute : ChuteNo)
  /-- METER_ON_EXPIRY (R14). -/
  | meterOnExpiry (meter : MeterNo)
  /-- METER_OFF_EXPIRY (R14). -/
  | meterOffExpiry (meter : MeterNo)
  /-- SETTLE_TIMER_EXPIRY (R66). -/
  | settleTimerExpiry (port : PortNo)
  /-- BOOT_TIMER_EXPIRY (R68). -/
  | bootTimerExpiry (port : PortNo)
  /-- DISCHARGE_TIMER_EXPIRY (R71). -/
  | dischargeTimerExpiry (port : PortNo)
  /-- SYNC_FALLING_EDGE (R79): `units` is the unit count at the edge. -/
  | syncFallingEdge (port : PortNo) (units : Word)
  /-- SYNC_RISING_EDGE (R79): `units` is the unit count at the edge. -/
  | syncRisingEdge (port : PortNo) (units : Word)
  /-- LAST_EDGE_TIMER_EXPIRY (R85). -/
  | lastEdgeTimerExpiry (port : PortNo)
  /-- END_OF_HELD (R95). -/
  | endOfHeld (gate : Station)
  /-- END_OF_GAP (R95). -/
  | endOfGap (gate : Station)
  /-- BOARD_LOCKOUT_RELEASE (R96): a board's lockout output falls to released (`asserted` false), or the board raises it
  (`asserted` true), a change the table has no row of its own for (log 6). -/
  | boardLockoutRelease (port : PortNo) (output : OutputNo) (asserted : Bool)
  /-- LOCKOUT_WAIT_EXPIRY (R96). -/
  | lockoutWaitExpiry (gate : Station)
  /-- BOARD_METER_PULSE (R98): the 10 ms activation measurement of a meter output ends. -/
  | boardMeterPulse (port : PortNo) (meter : OutputNo)
  /-- CONFIRM_TIMER_EXPIRY (R99). -/
  | confirmTimerExpiry (gate : Station)
  /-- PRESS_TIMER_EXPIRY (R101). -/
  | pressTimerExpiry (gate : Station)
  /-- GUARD_TIMER_EXPIRY (R92). -/
  | guardTimerExpiry (gate : Station)
  /-- CHORD_TIMER_EXPIRY (R125). -/
  | chordTimerExpiry
  /-- MONITOR_SETTLE_EXPIRY (R132). -/
  | monitorSettleExpiry
  /-- RAMP_STEP_EXPIRY (R136). -/
  | rampStepExpiry
  /-- SHOWN_SECONDS_TICK (R143). -/
  | shownSecondsTick (port : PortNo)
  /-- FETCH_START (R154): the 80H byte of a fetch has arrived. -/
  | fetchStart
  /-- FETCH_END (R154): chip select rises after `clocked` further bytes were clocked out. -/
  | fetchEnd (clocked : Nat)
  /-- DROPPED_TRANSACTION (R153): a transaction that is DROPPED ends. -/
  | droppedTransaction
  /-- RESPONSE_PLACEMENT (R152). -/
  | responsePlacement
  /-- FRAME_ERROR (R151): a command transaction ends whose bytes, `frame`, fail a frame test. -/
  | frameError (frame : List Byte)
  /-- START_RUN (R44). -/
  | startRun
  /-- ENTER_SETUP (R44). -/
  | enterSetup
  /-- RESTART (R45). -/
  | restart
  /-- WRITE_CABINET (R47): the 33 bytes of the cabinet record. -/
  | writeCabinet (record : List Byte)
  /-- READ_CABINET (R50). -/
  | readCabinet
  /-- WRITE_PROFILE (R51): the port and the 41 bytes of the profile record. -/
  | writeProfile (port : Byte) (record : List Byte)
  /-- READ_PROFILE (R55). -/
  | readProfile (port : Byte)
  /-- CLEAR_PROFILE (R54). -/
  | clearProfile (port : Byte)
  /-- WRITE_ROUTES (R116): the port, the entry count and the bytes of the entries. -/
  | writeRoutes (port count : Byte) (entries : List Byte)
  /-- READ_ROUTES (R117). -/
  | readRoutes (port : Byte)
  /-- SELECT (R127). -/
  | select (target clearCheck : Byte)
  /-- POWER_UP (R58). -/
  | powerUp (port : Byte)
  /-- POWER_DOWN (R60). -/
  | powerDown (port : Byte)
  /-- READ_PORT (R76). -/
  | readPort (port : Byte)
  /-- READ_STATUS (R158). -/
  | readStatus
  /-- READ_CONTROLS (R113). -/
  | readControls
  /-- READ_ACCOUNTS (R27). -/
  | readAccounts
  /-- LOAD_ACCOUNT (R25). -/
  | loadAccount (account : Byte) (balance : Half)
  /-- CLEAR_ACCOUNTS (R26). -/
  | clearAccounts
  /-- READ_EVENTS (R165). -/
  | readEvents
  /-- READ_AUDITS (R145). -/
  | readAudits (subject : Byte)
  /-- CLEAR_AUDITS (R144). -/
  | clearAudits
  /-- RESET_PIN_RELEASED (R45). -/
  | resetPinReleased
  /-- METER_OUTPUT_EDGE (R98). -/
  | meterOutputEdge (port : PortNo) (meter : OutputNo) (active : Bool)
  /-- CHIP_SELECT_FALLING_EDGE (R150). -/
  | chipSelectFallingEdge
  deriving DecidableEq, Repr

/-- The commands of the selector port (10 R157, R158, R159). -/
inductive Code where
  | startRun | enterSetup | restart | writeCabinet | readCabinet | writeProfile | readProfile | clearProfile
  | writeRoutes | readRoutes | select | powerUp | powerDown | readPort | readStatus | readControls | readAccounts
  | loadAccount | clearAccounts | readEvents | readAudits | clearAudits
  deriving DecidableEq, Repr

end Sys2Proof
end

