-- ==== Sys2Proof/Machine/State.lean ====
section
/-! DEFINITION. The state of the part as plain data, its value after power-on reset, and the outcomes of a step that stop
the machine. Each structure names the chapter of spec/ that gives its items. -/

namespace Sys2Proof.Machine

/-- A timer: stopped, or the milliseconds it still has to run. It has run out at 0. -/
abbrev Timer := Option Nat

/-! ### Modes, straps and cabinet settings (chapter 3) -/

inductive Mode where
  | setup | run
  deriving DecidableEq, Repr

inductive AccountMode where
  | shared | perStation
  deriving DecidableEq, Repr

/-- A monitor line-rate band (00, "Terms"). -/
inductive Band where
  | l | m | h
  deriving DecidableEq, Repr

/-- A set of bands (03 R41). -/
structure BandSet where
  l : Bool
  m : Bool
  h : Bool
  deriving DecidableEq, Repr

/-- The straps as taken at power-on (03 R41). -/
structure Straps where
  installed : Nat
  bands : BandSet
  deriving DecidableEq, Repr

/-- The cabinet settings (03 R46). -/
structure Settings where
  accountMode : AccountMode
  chuteValue : Vector Nat 4
  chuteEnabled : Vector Bool 4
  minWidth : Nat
  maxWidth : Nat
  minGap : Nat
  softCeiling : Nat
  meterOn : Nat
  meterOff : Nat
  chordEnable : Bool
  chordFirst : Control
  chordSecond : Control
  chordHold : Nat
  monitorSettle : Nat
  menuBand : Band
  menuTrim : Nat
  soundRamp : Nat
  powerBudget : Nat
  serviceEnabled : Bool
  deriving DecidableEq, Repr

/-! ### Chutes and cabinet meters (chapter 1) -/

inductive ChuteState where
  | quiet | timing | jammed
  deriving DecidableEq, Repr

/-- One chute (01 section 1.1). The jam flag is `state = jammed`. -/
structure Chute where
  held : Bool
  state : ChuteState
  leadingEdge : Option Word
  minWidth : Nat
  maxWidth : Nat
  qualified : Bool
  gapFailed : Bool
  maxWidthTimer : Timer
  gapTimer : Timer
  jamClearTimer : Timer
  lastAccepted : Option Word
  coil : Bool
  deriving DecidableEq, Repr

inductive MeterPhase where
  | idle | on | off
  deriving DecidableEq, Repr

/-- One cabinet meter (01 section 1.5). -/
structure Meter where
  pending : Nat
  phase : MeterPhase
  timer : Timer
  reported : Bool
  deriving DecidableEq, Repr

/-! ### Board profiles and route lists (chapters 3 and 7) -/

inductive CreditMode where
  | common | separate
  deriving DecidableEq, Repr

inductive Rotation where
  | r0 | r90 | r180 | r270
  deriving DecidableEq, Repr

inductive LeaveAction where
  | park | stop
  deriving DecidableEq, Repr

/-- A board profile (03 R52): `c`, `k`, `price` and `perStart` are c, k, P and s. -/
structure Profile where
  positions : Nat
  stationMap : Vector (Option Station) 4
  creditMode : CreditMode
  c : Nat
  k : Nat
  price : Nat
  perStart : Nat
  creditMax : Nat
  freePlay : Bool
  pulseWidth : Nat
  pulseGap : Nat
  pressWidth : Nat
  confirm : Vector (Option OutputNo) 4
  confirmTimeout : Nat
  lockout : Vector (Option OutputNo) 4
  lockoutWait : Nat
  playGuard : Nat
  rotation : Rotation
  powerSettle : Nat
  bootTimeout : Nat
  load : Nat
  keep : Bool
  leave : LeaveAction
  testPass : Bool
  trim : Nat
  deriving DecidableEq, Repr

/-- The source of a route (07 R114). -/
inductive RouteSource where
  | control (c : Control)
  | alwaysReleased
  | alwaysHeld
  deriving DecidableEq, Repr

/-- A route entry: a board control line and its source (07 R114). -/
structure Route where
  line : Control
  source : RouteSource
  deriving DecidableEq, Repr

/-! ### Credit counters (chapter 2) -/

inductive LotSource where
  | account (a : AccountNo)
  | free
  | service
  deriving DecidableEq, Repr

/-- A lot (02 R34). -/
structure Lot where
  source : LotSource
  credits : Nat
  value : Nat
  deriving DecidableEq, Repr

/-- A claim record (02 R35). -/
structure Claim where
  station : Station
  own : Nat
  shared : Nat
  planned : Nat
  deriving DecidableEq, Repr

/-- A credit counter: its lots, oldest first, and its claim records (02 section 2.6). -/
structure Counter where
  lots : List Lot
  claims : List Claim
  deriving DecidableEq, Repr

/-! ### The start gates, the coin-line arbiters and the expectation queues (chapter 6) -/

inductive GateState where
  | idle | waiting | pulsing | confirming | pressing
  deriving DecidableEq, Repr

inductive FundingKind where
  | none | ordinary | service
  deriving DecidableEq, Repr

inductive PulsePhase where
  | none | held | gap | lockoutHold
  deriving DecidableEq, Repr

/-- What a gate fixes at the press: the port, the position, the counter of that position and the coin line (06 6.1). -/
structure Place where
  port : PortNo
  position : Position
  counter : Nat
  line : CoinLine
  deriving DecidableEq, Repr

/-- One start gate (06 section 6.1). -/
structure Gate where
  state : GateState
  kind : FundingKind
  place : Option Place
  paying : Option AccountNo
  inFlight : Nat
  planned : Nat
  begun : Nat
  bundles : Nat
  phase : PulsePhase
  entry : Option OutputNo
  early : Bool
  phaseTimer : Timer
  lockoutTimer : Timer
  confirmTimer : Timer
  pressTimer : Timer
  guardTimer : Timer
  deriving DecidableEq, Repr

/-- The arbiter of one board coin line: its holder and the waiting gates, oldest first (06 R94). -/
structure Arbiter where
  holder : Option Station
  waiting : List Station
  deriving DecidableEq, Repr

/-- An entry of an expectation queue (06 R97). -/
structure Expectation where
  station : Station
  outstanding : Nat
  deriving DecidableEq, Repr

/-- A board meter output: its level, and the 10 ms measurement of an activation (06 R98). -/
structure MeterInput where
  active : Bool
  timer : Timer
  deriving DecidableEq, Repr

/-! ### The sync monitors (chapter 5) -/

inductive MonitorState where
  | stopped | searching | locked
  deriving DecidableEq, Repr

/-- The frame being measured (05 section 5.1). -/
structure OpenFrame where
  first : Option Word
  seventeenth : Option Word
  deriving DecidableEq, Repr

/-- A frame that has closed, with its line period, line count, band and validity (05 R81, R82). -/
structure Frame where
  lp : Nat
  f : Nat
  band : Option Band
  valid : Bool
  deriving DecidableEq, Repr

/-- The latest frame closed, of any class (05 section 5.1). -/
inductive LastFrame where
  | closed (fr : Frame)
  | overlong
  deriving DecidableEq, Repr

/-- The reported Lp and F (05 section 5.1). -/
structure Figures where
  lp : Nat
  f : Nat
  deriving DecidableEq, Repr

/-- One sync monitor (05 section 5.1); `low` is the level of its sync input. -/
structure Monitor where
  low : Bool
  state : MonitorState
  unitCount : Word
  pulse : Option Word
  waitRelease : Bool
  estimate : Option Nat
  h : Nat
  frame : Option OpenFrame
  previous : Option Frame
  consistency : Nat
  inconsistency : Nat
  frozen : Option Band
  reported : Option Figures
  last : Option LastFrame
  lastEdge : Timer
  deriving DecidableEq, Repr

/-! ### The ports (chapter 4) and their audits (chapter 9) -/

inductive PortState where
  | absent | off | queued | powering | booting | parked | live | stopping
  deriving DecidableEq, Repr

/-- The audit counters of a port (09 section 9.1), its SHOWN SECONDS remainder, and the model's mark that a whole second
has been reached and its tick is still to be taken (log 27). -/
structure PortAudits where
  starts : Nat
  freeStarts : Nat
  bundlesFunded : Nat
  ticksCharged : Nat
  ticksRefunded : Nat
  ticksConsumed : Nat
  serviceCredits : Nat
  confirmMisses : Nat
  strayPulses : Nat
  orphanPulses : Nat
  shownSeconds : Nat
  boots : Nat
  losses : Nat
  remainder : Nat
  secondDue : Bool
  deriving DecidableEq, Repr

/-- One port (04 section 4.1) with all that is kept per port. -/
structure Port where
  state : PortState
  profile : Option Profile
  check : Bool
  missStreak : Nat
  restart : Bool
  settleTimer : Timer
  bootTimer : Timer
  dischargeTimer : Timer
  routes : List Route
  counters : List Counter
  arbiters : Vector Arbiter 4
  expect : Vector (List Expectation) 2
  meterIn : Vector MeterInput 2
  lockoutIn : Vector Bool 2
  monitor : Monitor
  audits : PortAudits
  deriving DecidableEq, Repr

/-- The audit counters of the cabinet (09 section 9.1). -/
structure CabinetAudits where
  coins : Vector Nat 4
  units : Vector Nat 4
  rejected : Nat
  jams : Nat
  overflowTicks : Nat
  meterOverflow : Vector Nat 2
  deriving DecidableEq, Repr

/-! ### The control router (chapter 7) and the RESET pin (03 R45) -/

inductive ChordState where
  | idle | timing | fired
  deriving DecidableEq, Repr

/-- The control router (07 section 7.1); `raw` is the level of each cabinet input, and `passed` says of each station whether the
START press it holds was passed through to the board (06 R91, R92; log 19). -/
structure Router where
  raw : Vector Bool 47
  level : Vector Bool 47
  timers : Vector Timer 47
  marks : Vector Bool 47
  passed : Vector Bool 4
  routed : Option PortNo
  chord : ChordState
  chordTimer : Timer
  deriving DecidableEq, Repr

/-- The RESET pin and its filter (03 R45). -/
structure ResetPin where
  raw : Bool
  filtered : Bool
  timer : Timer
  deriving DecidableEq, Repr

/-! ### The cutover controller (chapter 8) -/

/-- A crosspoint source: MENU or the board on a port (00, "Numbering"). -/
inductive Crosspoint where
  | menu
  | port (p : PortNo)
  deriving DecidableEq, Repr

inductive CutoverPhase where
  | hold | mute | band | align | shown
  deriving DecidableEq, Repr

/-- A sound ramp under way (08 R136). -/
structure Ramp where
  target : Nat
  interval : Nat
  timer : Nat
  deriving DecidableEq, Repr

/-- The cutover record (08 section 8.1). -/
structure Record where
  phase : CutoverPhase
  outgoing : Crosspoint
  target : Crosspoint
  deriving DecidableEq, Repr

/-- The cutover controller (08 section 8.1). -/
structure Cutover where
  live : Crosspoint
  band : Band
  blank : Bool
  level : Nat
  ramp : Option Ramp
  pendingSel : Option Crosspoint
  record : Option Record
  settleTimer : Timer
  deriving DecidableEq, Repr

/-! ### Events (chapter 11) -/

/-- The event kinds (11 R163). -/
inductive EventKind where
  | powerOn | restarted | coin | chuteJam | chuteClear | meterSaturated | startPassed | startRefused | fundingAborted
  | confirmMissed | strayMeter | serviceRefused | boardReady | boardLost | bootFailed | boardEvicted | powerRefused
  | cutoverDone | cutoverFailed | chord | testPressed
  deriving DecidableEq, Repr

/-- An event record (11 R163). -/
structure EventRecord where
  kind : EventKind
  subject : Byte
  detail1 : Half
  detail2 : Half
  stamp : Word
  deriving DecidableEq, Repr

/-! ### The selector port (chapter 10) -/

inductive Transaction where
  | none | command | fetch | ignored | dropped
  deriving DecidableEq, Repr

/-- The response classes (10 R156). -/
inductive ResponseClass where
  | done | accepted | notSettled | refused | invalid | checkError | empty
  deriving DecidableEq, Repr

/-- A response frame (10 R156): class, OVERRUN flag, echoed code, payload. Its bytes are computed. -/
structure Response where
  cls : ResponseClass
  overrun : Bool
  code : Byte
  payload : List Byte
  deriving DecidableEq, Repr

/-- The frame being clocked out by a fetch (10 R154). -/
structure FetchCopy where
  response : Response
  fromSlot : Bool
  sent : Nat
  deriving DecidableEq, Repr

/-- What the taking of a command has left to be done at a later event (10 R152). -/
inductive Preparing where
  | nothing
  | response (r : Response)
  | restart
  deriving DecidableEq, Repr

/-- The selector port (10 section 10.1). `dataOut` is the model's record of the bytes that the latest transaction to end, or
the fetch under way, has shifted out after its first byte, which always meets 00H (10 R150; log 10). -/
structure Link where
  receive : List Byte
  transaction : Transaction
  slot : Option Response
  ready : Bool
  overrun : Bool
  fetch : Option FetchCopy
  preparing : Preparing
  placeTimer : Timer
  dataOut : List Byte
  deriving DecidableEq, Repr

/-! ### The whole part -/

/-- The state of the part: everything the spec gives it, the queue of waiting commands, and the count of free choices of
order already taken (log 3). -/
structure State where
  pending : List Instr
  timeStamp : Word
  mode : Mode
  straps : Straps
  settings : Settings
  chutes : Vector Chute 4
  meters : Vector Meter 2
  accounts : Vector Nat 4
  totalIn : Nat
  totalOut : Nat
  ports : Vector Port 8
  powerQueue : List PortNo
  recency : List PortNo
  gates : Vector Gate 4
  servicePending : Bool
  router : Router
  resetPin : ResetPin
  cutover : Cutover
  cabinet : CabinetAudits
  link : Link
  events : List EventRecord
  overflow : Bool
  freeCount : Nat
  deriving DecidableEq, Repr

/-- Why the machine stops with a fault. The spec gives the part no such stop: every command has a next state, so this
type has no constructor. -/
inductive Fault where
  deriving DecidableEq, Repr

/-- Why a command has no meaning. -/
inductive Refusal where
  /-- Raised by an arm of `exec` whose command has no meaning yet; no arm raises it. Safe: the machine stops. -/
  | notModelled (mnemonic : String)
  deriving DecidableEq, Repr

/-! ### Power-on values -/

/-- The strapped bands: those whose input is held, and L alone when none is (03 R41). -/
def strappedBands (bands : BitVec 3) : BandSet :=
  if bands = 0 then ⟨true, false, false⟩ else ⟨bands.getLsbD 0, bands.getLsbD 1, bands.getLsbD 2⟩

/-- PORTS read as b gives b + 1 installed ports (03 R41). -/
def takenStraps (ports bands : BitVec 3) : Straps := ⟨ports.toNat + 1, strappedBands bands⟩

/-- The menu band at power-on: L if strapped, otherwise M before H (03 R46). -/
def lowestBand (b : BandSet) : Band := if b.l then .l else if b.m then .m else .h

/-- The power-on defaults of the cabinet settings (03 R46). -/
def defaultSettings (menuBand : Band) : Settings where
  accountMode := .shared
  chuteValue := Vector.replicate 4 1
  chuteEnabled := Vector.replicate 4 true
  minWidth := 20
  maxWidth := 150
  minGap := 40
  softCeiling := 40
  meterOn := 60
  meterOff := 60
  chordEnable := false
  chordFirst := 10
  chordSecond := 9
  chordHold := 2000
  monitorSettle := 500
  menuBand := menuBand
  menuTrim := 0
  soundRamp := 200
  powerBudget := 40
  serviceEnabled := true

/-- A chute at power-on whose input is released (01 R1). DESIGN CHOICE (log 20): the captured limits, the qualified mark and
the leading-edge time, which R1 gives for a held input only. -/
def quietChute : Chute where
  held := false
  state := .quiet
  leadingEdge := none
  minWidth := 20
  maxWidth := 150
  qualified := false
  gapFailed := false
  maxWidthTimer := none
  gapTimer := none
  jamClearTimer := none
  lastAccepted := none
  coil := true

/-- A cabinet meter at power-on (01 R11). -/
def idleMeter : Meter := ⟨0, .idle, none, false⟩

/-- A gate at power-on (06 R90). -/
def idleGate : Gate where
  state := .idle
  kind := .none
  place := none
  paying := none
  inFlight := 0
  planned := 0
  begun := 0
  bundles := 0
  phase := .none
  entry := none
  early := false
  phaseTimer := none
  lockoutTimer := none
  confirmTimer := none
  pressTimer := none
  guardTimer := none

/-- A monitor at power-on, its sync input at a given level (05 R77). -/
def stoppedMonitor (low : Bool) : Monitor where
  low := low
  state := .stopped
  unitCount := 0
  pulse := none
  waitRelease := false
  estimate := none
  h := 0
  frame := none
  previous := none
  consistency := 0
  inconsistency := 0
  frozen := none
  reported := none
  last := none
  lastEdge := none

/-- Audit counters at power-on (09 R142). -/
def zeroAudits : PortAudits := ⟨0, 0, 0, 0, 0, 0, 0, 0, 0, 0, 0, 0, 0, 0, false⟩

/-- The cabinet's audit counters at power-on (09 R142). -/
def zeroCabinet : CabinetAudits := ⟨Vector.replicate 4 0, Vector.replicate 4 0, 0, 0, 0, Vector.replicate 2 0⟩

/-- An arbiter with no holder and nobody waiting (06 R94). -/
def freeArbiter : Arbiter := ⟨none, []⟩

/-- A port at power-on, installed or not (04 R57), with its input levels at rest. -/
def powerOnPort (installed : Bool) : Port where
  state := if installed then .off else .absent
  profile := none
  check := installed
  missStreak := 0
  restart := false
  settleTimer := none
  bootTimer := none
  dischargeTimer := none
  routes := []
  counters := []
  arbiters := Vector.replicate 4 freeArbiter
  expect := Vector.replicate 2 []
  meterIn := Vector.replicate 2 ⟨false, none⟩
  lockoutIn := Vector.replicate 2 false
  monitor := stoppedMonitor false
  audits := zeroAudits

/-- The router at power-on, the raw levels given (07 R111, R120, R121, R124). -/
def powerOnRouter (raw : Vector Bool 47) : Router where
  raw := raw
  level := raw
  timers := Vector.replicate 47 none
  marks := Vector.replicate 47 false
  passed := Vector.replicate 4 false
  routed := none
  chord := .idle
  chordTimer := none

/-- The cutover controller at power-on, and after the sweep of a warm reset or ENTER SETUP (08 R126). -/
def menuCutover (st : Settings) : Cutover where
  live := .menu
  band := st.menuBand
  blank := false
  level := st.menuTrim
  ramp := none
  pendingSel := none
  record := none
  settleTimer := none

/-- The selector port at power-on (10 R156). -/
def powerOnLink : Link where
  receive := []
  transaction := .none
  slot := none
  ready := true
  overrun := false
  fetch := none
  preparing := .nothing
  placeTimer := none
  dataOut := []

/-- A set of bands as the code of 10 R160: bit 0 L, bit 1 M, bit 2 H. -/
def bandSetCode (b : BandSet) : Nat := (if b.l then 1 else 0) + (if b.m then 2 else 0) + (if b.h then 4 else 0)

/-- The record POWER-ON (11 R163, R167). -/
def powerOnRecord (st : Straps) : EventRecord where
  kind := .powerOn
  subject := 0
  detail1 := BitVec.ofNat 16 st.installed
  detail2 := BitVec.ofNat 16 (bandSetCode st.bands)
  stamp := 0

/-- The straps of `State.reset`. DESIGN CHOICE (log 5): a fully strapped part, eight ports and all three bands. -/
def resetStraps : Straps := takenStraps 7 7

/-- The machine right after power-on reset (03 R42), fully strapped and with every input at rest (log 5). -/
def State.reset : State where
  pending := []
  timeStamp := 0
  mode := .setup
  straps := resetStraps
  settings := defaultSettings (lowestBand resetStraps.bands)
  chutes := Vector.replicate 4 quietChute
  meters := Vector.replicate 2 idleMeter
  accounts := Vector.replicate 4 0
  totalIn := 0
  totalOut := 0
  ports := Vector.replicate 8 (powerOnPort true)
  powerQueue := []
  recency := []
  gates := Vector.replicate 4 idleGate
  servicePending := false
  router := powerOnRouter (Vector.replicate 47 false)
  resetPin := ⟨false, false, none⟩
  cutover := menuCutover (defaultSettings (lowestBand resetStraps.bands))
  cabinet := zeroCabinet
  link := powerOnLink
  events := [powerOnRecord resetStraps]
  overflow := false
  freeCount := 0

end Sys2Proof.Machine
end

