-- ==== Sys2Proof/Machine/Table.lean ====
section
/-! DEFINITION. Fixed numbers of like things: reading one, replacing one, changing one, changing all. -/

namespace Sys2Proof.Machine

/-- Entry `i`. -/
def slot {α : Type} {n : Nat} (v : Vector α n) (i : Fin n) : α := v[i]

/-- Entry `i` replaced by `x`. -/
def setSlot {α : Type} {n : Nat} (v : Vector α n) (i : Fin n) (x : α) : Vector α n := v.set i x

/-- Entry `i` changed by `f`. -/
def modSlot {α : Type} {n : Nat} (v : Vector α n) (i : Fin n) (f : α → α) : Vector α n := setSlot v i (f (slot v i))

/-- Every entry changed by `f`. -/
def mapSlots {α β : Type} {n : Nat} (f : α → β) (v : Vector α n) : Vector β n :=
  ⟨(v.toList.map f).toArray, by simp⟩

end Sys2Proof.Machine
end

