-- ==== Sys2Proof/Machine/Ops.lean ====
section
/-! DEFINITION. The named operations over the state that every block shares: reading and changing one repeated block, posting
an event, advancing a counter, the account store's requests, the chute coils and the cabinet meters' requests. -/

namespace Sys2Proof.Machine

/-! ### One of a repeated block -/

def State.port (s : State) (p : PortNo) : Port := slot s.ports p
def State.gate (s : State) (t : Station) : Gate := slot s.gates t
def State.chute (s : State) (i : ChuteNo) : Chute := slot s.chutes i
def State.meter (s : State) (m : MeterNo) : Meter := slot s.meters m
def State.balance (s : State) (a : AccountNo) : Nat := slot s.accounts a

def modPort (p : PortNo) (f : Port → Port) (s : State) : State := { s with ports := modSlot s.ports p f }
def modGate (t : Station) (f : Gate → Gate) (s : State) : State := { s with gates := modSlot s.gates t f }
def modChute (i : ChuteNo) (f : Chute → Chute) (s : State) : State := { s with chutes := modSlot s.chutes i f }
def modMeter (m : MeterNo) (f : Meter → Meter) (s : State) : State := { s with meters := modSlot s.meters m f }
def modCabinet (f : CabinetAudits → CabinetAudits) (s : State) : State := { s with cabinet := f s.cabinet }
def modRouter (f : Router → Router) (s : State) : State := { s with router := f s.router }
def modCutover (f : Cutover → Cutover) (s : State) : State := { s with cutover := f s.cutover }
def modLink (f : Link → Link) (s : State) : State := { s with link := f s.link }

/-- The audit counters of port `p` changed. -/
def modAudits (p : PortNo) (f : PortAudits → PortAudits) (s : State) : State :=
  modPort p (fun pt => { pt with audits := f pt.audits }) s

/-- The sync monitor of port `p` changed. -/
def modMonitor (p : PortNo) (f : Monitor → Monitor) (s : State) : State :=
  modPort p (fun pt => { pt with monitor := f pt.monitor }) s

/-- A timer that has run out. -/
def expired (t : Timer) : Bool := t == some 0

/-- A profile that stands in where a port has none. No rule reads a profile of such a port: a port without one is never
powered (04 R58), so only states that no run reaches meet it (log 30). -/
def noProfile : Profile where
  positions := 1
  stationMap := Vector.replicate 4 none
  creditMode := .common
  c := 1
  k := 1
  price := 1
  perStart := 1
  creditMax := 9
  freePlay := false
  pulseWidth := 20
  pulseGap := 20
  pressWidth := 50
  confirm := Vector.replicate 4 none
  confirmTimeout := 100
  lockout := Vector.replicate 4 none
  lockoutWait := 100
  playGuard := 0
  rotation := .r0
  powerSettle := 50
  bootTimeout := 1
  load := 1
  keep := false
  leave := .park
  testPass := false
  trim := 0

/-- The profile in force on port `p`. -/
def profileOf (s : State) (p : PortNo) : Profile := (s.port p).profile.getD noProfile

/-- The port that is LIVE, if one is (04 R56). -/
def livePort (s : State) : Option PortNo := (List.finRange 8).find? fun p => (s.port p).state == .live

/-! ### Events and counters -/

/-- Two values in one detail, the first in its high byte (11 R163). -/
def hiLo (hi lo : Nat) : Nat := 256 * hi + lo

/-- Posting a record (11 R162): appended to a queue of fewer than 32, dropped with the overflow flag set otherwise. -/
def post (kind : EventKind) (subject detail1 detail2 : Nat) (s : State) : State :=
  { s with
    events :=
      if s.events.length < Config.eventCapacity then
        s.events ++ [⟨kind, BitVec.ofNat 8 subject, BitVec.ofNat 16 detail1, BitVec.ofNat 16 detail2, s.timeStamp⟩]
      else s.events
    overflow := if s.events.length < Config.eventCapacity then s.overflow else true }

/-- ATTN is asserted while the queue holds a record (11 R166). -/
def attn (s : State) : Bool := !s.events.isEmpty

/-- An advance of a counter, which saturates (09 R142, R146). -/
def satAdd (n m : Nat) : Nat := min (n + m) Config.counterMax

/-! ### The chute lockout coils (01 section 1.4) -/

/-- The account that chute n credits and station n pays from (02 R19). -/
def accountOf (s : State) (n : Fin 4) : AccountNo :=
  match s.settings.accountMode with
  | .shared => 0
  | .perStation => n

/-- Chute n is over its threshold (01 R7). -/
def overThreshold (s : State) (i : ChuteNo) : Bool :=
  decide (s.settings.softCeiling * Config.ticksPerUnit <
    s.balance (accountOf s i) + slot s.settings.chuteValue i * Config.ticksPerUnit)

/-- Whether a condition of 01 R9 holds for chute n's coil. -/
def coilWanted (s : State) (i : ChuteNo) : Bool :=
  s.mode == .setup || !slot s.settings.chuteEnabled i || (s.chute i).state == .jammed || overThreshold s i

/-- Chute n's coil re-evaluated (01 R10). -/
def coilOf (i : ChuteNo) (s : State) : State := modChute i (fun c => { c with coil := coilWanted s i }) s

/-- Chute n's coil re-evaluated if its account is the one changed (01 R10). -/
def coilIfFed (a : AccountNo) (i : ChuteNo) (s : State) : State :=
  modChute i (fun c => { c with coil := if accountOf s i = a then coilWanted s i else c.coil }) s

/-- The coils of the chutes whose account is `a` re-evaluated (01 R10, a change of a balance). -/
def coilsFedBy (a : AccountNo) (s : State) : State :=
  coilIfFed a 3 (coilIfFed a 2 (coilIfFed a 1 (coilIfFed a 0 s)))

/-- All four coils re-evaluated (01 R10). -/
def allCoils (s : State) : State := coilOf 3 (coilOf 2 (coilOf 1 (coilOf 0 s)))

/-! ### The account store (02 section 2.2) -/

/-- The balance after `x` ticks are taken in at the cap (02 R20). -/
def cappedBalance (b x : Nat) : Nat := if b + x ≤ Config.cap then b + x else Config.cap

/-- The ticks of `x` that the balance admits (02 R20). -/
def admitted (b x : Nat) : Nat := if b + x ≤ Config.cap then x else Config.cap - b

/-- The ticks of `x` lost at the cap (02 R20). -/
def excess (b x : Nat) : Nat := if b + x ≤ Config.cap then 0 else b + x - Config.cap

/-- OVERFLOW TICKS advanced by `x` (09 section 9.1). -/
def addOverflow (x : Nat) (c : CabinetAudits) : CabinetAudits := { c with overflowTicks := satAdd c.overflowTicks x }

/-- A credit of `x` ticks to account `a` (02 R20). -/
def credit (a : AccountNo) (x : Nat) (s : State) : State :=
  coilsFedBy a
    { s with
      accounts := setSlot s.accounts a (cappedBalance (s.balance a) x)
      cabinet := addOverflow (excess (s.balance a) x) s.cabinet
      totalIn := satAdd s.totalIn (admitted (s.balance a) x) }

/-- Whether account `a` covers a charge of `x` ticks (02 R21). -/
def covered (a : AccountNo) (x : Nat) (s : State) : Bool := decide (x ≤ s.balance a)

/-- A covered charge of `x` ticks from account `a` for port `p` (02 R21). -/
def charge (p : PortNo) (a : AccountNo) (x : Nat) (s : State) : State :=
  coilsFedBy a
    (modAudits p (fun u => { u with ticksCharged := satAdd u.ticksCharged x })
      { s with accounts := setSlot s.accounts a (s.balance a - x) })

/-- A refund of `x` ticks to account `a`, of money charged for port `p` (02 R22). -/
def refund (p : PortNo) (a : AccountNo) (x : Nat) (s : State) : State :=
  if x = 0 then s
  else
    coilsFedBy a
      (modAudits p (fun u => { u with ticksRefunded := satAdd u.ticksRefunded x })
        { s with
          accounts := setSlot s.accounts a (cappedBalance (s.balance a) x)
          cabinet := addOverflow (excess (s.balance a) x) s.cabinet
          totalOut := satAdd s.totalOut (excess (s.balance a) x) })

/-- The merge of the four balances into account 1 (02 R24). -/
def mergeAccounts (s : State) : State :=
  let sum := s.balance 0 + s.balance 1 + s.balance 2 + s.balance 3
  { s with
    accounts := setSlot (Vector.replicate 4 0) 0 (cappedBalance 0 sum)
    cabinet := addOverflow (excess 0 sum) s.cabinet
    totalOut := satAdd s.totalOut (excess 0 sum) }

/-! ### The cabinet meters' requests (01 R13, R14) -/

/-- A pulse begins (01 R14 step 1). -/
def meterPulse (on : Nat) (m : Meter) : Meter := { m with phase := .on, timer := some on }

/-- What a meter does with a request of `n` increments (01 R13): it keeps those that fit, and a pulse begins when pending
rises from 0 while the phase is IDLE. -/
def meterTake (on n : Nat) (m : Meter) : Meter :=
  let m' :=
    if m.pending + n ≤ Config.meterMax then { m with pending := m.pending + n }
    else { m with pending := Config.meterMax, reported := true }
  if m.pending = 0 ∧ m.phase = .idle ∧ 0 < m'.pending then meterPulse on m' else m'

/-- METER OVERFLOW of meter `m` advanced by `n` (01 R13). -/
def addMeterOverflow (m : MeterNo) (n : Nat) (c : CabinetAudits) : CabinetAudits :=
  { c with meterOverflow := modSlot c.meterOverflow m fun x => satAdd x n }

/-- A request of `n` increments to meter `m` (01 R13): the dropped increments are counted, and the first drop of a fill
posts METER SATURATED. -/
def meterRequest (m : MeterNo) (n : Nat) (s : State) : State :=
  let before := s.meter m
  let s' :=
    modCabinet (addMeterOverflow m (before.pending + n - Config.meterMax))
      (modMeter m (meterTake s.settings.meterOn n) s)
  if Config.meterMax < before.pending + n ∧ before.reported = false then post .meterSaturated (m.val + 1) 0 0 s' else s'

end Sys2Proof.Machine
end

