-- ==== Sys2Proof/Machine/Chutes.lean ====
section
/-! DEFINITION. The meanings of the coin intake's and the cabinet meters' events (chapter 1). Each expiry is taken when its
timer has run out in the state it belongs to, and otherwise does not come (log 2). -/

namespace Sys2Proof.Machine

/-! ### Measuring a pulse (01 R2 to R4) -/

/-- A measurement begins (01 R2). -/
def beginMeasurement (s : State) (c : Chute) : Chute :=
  { c with
    held := true
    state := .timing
    leadingEdge := some s.timeStamp
    minWidth := s.settings.minWidth
    maxWidth := s.settings.maxWidth
    qualified := true
    gapFailed := c.gapTimer.isSome
    maxWidthTimer := some s.settings.maxWidth }

/-- The width of a pulse, modulo 2^32 (01 R3). -/
def pulseWidth (s : State) (c : Chute) : Nat := (s.timeStamp - c.leadingEdge.getD 0).toNat

/-- Whether a pulse is accepted (01 R3). -/
def accepts (s : State) (c : Chute) : Bool :=
  c.qualified && !c.gapFailed && decide (c.minWidth ≤ pulseWidth s c) && decide (pulseWidth s c ≤ c.maxWidth)

/-- A chute at the end of a measurement. -/
def endMeasurement (c : Chute) : Chute :=
  { c with held := false, state := .quiet, leadingEdge := none, maxWidthTimer := none }

/-- COINS of chute `i` advanced by 1 and UNITS by `v` (01 R4). -/
def countCoin (i : ChuteNo) (v : Nat) (c : CabinetAudits) : CabinetAudits :=
  { c with coins := modSlot c.coins i fun n => satAdd n 1, units := modSlot c.units i fun n => satAdd n v }

/-- An accepted coin is credited (01 R4): account, audits, COIN, COINS meter. -/
def creditCoin (i : ChuteNo) (s : State) : State :=
  let v := slot s.settings.chuteValue i
  let a := accountOf s i
  let s1 := credit a (v * Config.ticksPerUnit) s
  let s2 := modCabinet (countCoin i v) s1
  meterRequest coinsMeter v (post .coin (i.val + 1) (hiLo v (a.val + 1)) (s2.balance a) s2)

/-- A trailing edge in TIMING (01 R3): the pulse is accepted and credited, or rejected and counted. -/
def judgePulse (i : ChuteNo) (s : State) : State :=
  if accepts s (s.chute i) then
    creditCoin i
      (modChute i (fun c =>
        { endMeasurement c with lastAccepted := some s.timeStamp, gapTimer := some s.settings.minGap }) s)
  else
    modCabinet (fun c => { c with rejected := satAdd c.rejected 1 }) (modChute i endMeasurement s)

/-! ### Jams (01 R5, R6) -/

def maxWidthDue (c : Chute) : Bool := c.state == .timing && expired c.maxWidthTimer
def gapTimerDue (c : Chute) : Bool := expired c.gapTimer
def jamClearDue (c : Chute) : Bool := c.state == .jammed && expired c.jamClearTimer

/-- A chute jams (01 R5). -/
def jamChute (i : ChuteNo) (s : State) : State :=
  let s1 := modChute i (fun c => { c with state := .jammed, leadingEdge := none, maxWidthTimer := none }) s
  let s2 := modCabinet (fun c => { c with jams := satAdd c.jams 1 }) s1
  coilOf i (post .chuteJam (i.val + 1) 0 0 s2)

/-- A jam clears (01 R6). -/
def clearJam (i : ChuteNo) (s : State) : State :=
  coilOf i (post .chuteClear (i.val + 1) 0 0 (modChute i (fun c => { c with state := .quiet, jamClearTimer := none }) s))

/-! ### Cabinet meters (01 R14) -/

def meterOnDue (m : Meter) : Bool := m.phase == .on && expired m.timer
def meterOffDue (m : Meter) : Bool := m.phase == .off && expired m.timer

/-- The end of an OFF phase (01 R14 step 3). -/
def meterAdvance (on : Nat) (m : Meter) : Meter :=
  if 1 < m.pending then meterPulse on { m with pending := m.pending - 1 }
  else { m with pending := 0, phase := .idle, timer := none, reported := false }

/-! ### The meanings -/

/-- CHUTE_LEADING_EDGE (01 R2, R6). A chute in TIMING cannot see one. -/
def execChuteLeadingEdge (i : ChuteNo) (s : State) : Host.Outcome State Fault Refusal :=
  .next (match (s.chute i).state with
    | .quiet => modChute i (beginMeasurement s) s
    | .timing => s
    | .jammed => modChute i (fun c => { c with held := true, jamClearTimer := none }) s)

/-- CHUTE_TRAILING_EDGE (01 R3, R6). A chute in QUIET cannot see one: its input is released. -/
def execChuteTrailingEdge (i : ChuteNo) (s : State) : Host.Outcome State Fault Refusal :=
  .next (match (s.chute i).state with
    | .quiet => s
    | .timing => judgePulse i s
    | .jammed => modChute i (fun c => { c with held := false, jamClearTimer := some Config.jamClear }) s)

/-- MAX_WIDTH_EXPIRY (01 R5). -/
def execMaxWidthExpiry (i : ChuteNo) (s : State) : Host.Outcome State Fault Refusal :=
  .next (if maxWidthDue (s.chute i) then jamChute i s else s)

/-- GAP_TIMER_EXPIRY (01 R2, R3). -/
def execGapTimerExpiry (i : ChuteNo) (s : State) : Host.Outcome State Fault Refusal :=
  .next (if gapTimerDue (s.chute i) then modChute i (fun c => { c with gapTimer := none }) s else s)

/-- JAM_CLEAR_EXPIRY (01 R6). -/
def execJamClearExpiry (i : ChuteNo) (s : State) : Host.Outcome State Fault Refusal :=
  .next (if jamClearDue (s.chute i) then clearJam i s else s)

/-- METER_ON_EXPIRY (01 R14 step 2). -/
def execMeterOnExpiry (m : MeterNo) (s : State) : Host.Outcome State Fault Refusal :=
  .next (if meterOnDue (s.meter m) then
    modMeter m (fun x => { x with phase := .off, timer := some s.settings.meterOff }) s else s)

/-- METER_OFF_EXPIRY (01 R14 step 3). -/
def execMeterOffExpiry (m : MeterNo) (s : State) : Host.Outcome State Fault Refusal :=
  .next (if meterOffDue (s.meter m) then modMeter m (meterAdvance s.settings.meterOn) s else s)

end Sys2Proof.Machine
end

