-- ==== Sys2Proof/Machine/Counters.lean ====
section
/-! DEFINITION. Credit counters: lots, claim records, the tick arithmetic (02 sections 2.5 and 2.6). -/

namespace Sys2Proof.Machine

/-! ### Derived figures of a profile (02 R28, R33) -/

/-- The bundle cost in ticks (02 R28). -/
def bundleCost (pr : Profile) : Nat := pr.price * Config.ticksPerUnit

/-- The value per credit in ticks (02 R28). -/
def valuePerCredit (pr : Profile) : Nat := pr.price * Config.ticksPerUnit / pr.k

/-- The number of credit counters (02 R33). -/
def counterCount (pr : Profile) : Nat :=
  match pr.creditMode with
  | .common => 1
  | .separate => pr.positions

/-- The counter, and the coin line, of a position (02 R33). -/
def counterIndex (pr : Profile) (pos : Position) : CoinLine :=
  match pr.creditMode with
  | .common => 0
  | .separate => pos

/-- The position a station is mapped to (03 R52, station map). -/
def positionOf (pr : Profile) (t : Station) : Option Position :=
  (List.finRange 4).find? fun pos => decide (pos.val < pr.positions) && slot pr.stationMap pos == some t

/-- What station `t` fixes at a press on port `p` (06 R93). -/
def placeOf (pr : Profile) (p : PortNo) (pos : Position) : Place :=
  ⟨p, pos, (counterIndex pr pos).val, counterIndex pr pos⟩

/-! ### One counter -/

def emptyCounter : Counter := ⟨[], []⟩

/-- The counter at a place. -/
def counterAt (s : State) (pl : Place) : Counter := (s.port pl.port).counters.getD pl.counter emptyCounter

/-- The counter at a place changed. -/
def modCounter (pl : Place) (f : Counter → Counter) (s : State) : State :=
  modPort pl.port (fun pt => { pt with counters := pt.counters.modify pl.counter f }) s

/-- Lots of account `a` (02 R29). -/
def ofAccount (a : AccountNo) (l : Lot) : Bool := l.source == .account a

/-- Lots whose source is FREE or SERVICE (02 R29). -/
def isShared (l : Lot) : Bool := l.source == .free || l.source == .service

/-- The credits of a pool of lots (02 R35). -/
def poolCredits (pool : Lot → Bool) (lots : List Lot) : Nat := ((lots.filter pool).map Lot.credits).sum

/-- The value of lots: credits × value per credit (09 R145). -/
def lotsValue (lots : List Lot) : Nat := (lots.map fun l => l.credits * l.value).sum

/-- The unclaimed credits of station `t`'s paying account: those no other gate's claim record sets aside (02 R29). -/
def unclaimedOwn (s : State) (c : Counter) (t : Station) : Nat :=
  poolCredits (ofAccount (accountOf s t)) c.lots -
    ((c.claims.filter fun r => r.station != t && accountOf s r.station == accountOf s t).map Claim.own).sum

/-- The unclaimed credits of FREE and SERVICE lots for station `t` (02 R29). -/
def unclaimedShared (c : Counter) (t : Station) : Nat :=
  poolCredits isShared c.lots - ((c.claims.filter fun r => r.station != t).map Claim.shared).sum

/-- The own credits of station `t` (02 R29). -/
def ownCredits (s : State) (c : Counter) (t : Station) : Nat := unclaimedOwn s c t + unclaimedShared c t

/-- The bundles needed to fund one start (02 R29): 0 when the own credits suffice, and otherwise the quotient rounded up. -/
def bundlesNeeded (pr : Profile) (own : Nat) : Nat :=
  if pr.perStart ≤ own then 0 else (pr.perStart - own + pr.k - 1) / pr.k

/-- The committed credits of a counter (02 R30). -/
def committed (c : Counter) : Nat := (c.lots.map Lot.credits).sum + (c.claims.map Claim.planned).sum

/-- Whether the board can hold `n` more bundles (02 R30). -/
def boardHolds (pr : Profile) (c : Counter) (n : Nat) : Bool := decide (committed c + n * pr.k ≤ pr.creditMax)

/-- A new lot merged into the newest one when source and value agree, appended otherwise (02 R34). -/
def addLot (new : Lot) (lots : List Lot) : List Lot :=
  match lots.getLast? with
  | some newest =>
    if newest.source = new.source ∧ newest.value = new.value then
      lots.dropLast ++ [{ newest with credits := newest.credits + new.credits }]
    else lots ++ [new]
  | none => [new]

/-- `n` credits taken from a pool's lots, oldest first, each giving up its whole count before the next is touched (02 R36):
the lots that remain, and the ticks the credits taken were worth. Every paid lot of a port has the same value v (02 R28)
and FREE and SERVICE lots have value 0, so the ticks are the paid credits taken times v (02 R32, log 29). -/
def takeCredits (pool : Lot → Bool) : Nat → List Lot → List Lot × Nat
  | _, [] => ([], 0)
  | n, l :: ls =>
    if pool l then
      let taken := min n l.credits
      let rest := takeCredits pool (n - taken) ls
      (if taken = l.credits then rest.1 else { l with credits := l.credits - taken } :: rest.1, taken * l.value + rest.2)
    else
      let rest := takeCredits pool n ls
      (l :: rest.1, rest.2)

/-- The claim record of station `t` (02 R35). -/
def claimOf (c : Counter) (t : Station) : Option Claim := c.claims.find? fun r => r.station == t

/-- The counter without station `t`'s claim record (02 R35). -/
def dropClaim (t : Station) (c : Counter) : Counter := { c with claims := c.claims.filter fun r => r.station != t }

/-- How many own-account credits a start of station `t` consumes, of the s it needs (02 R32): from those its claim record
holds if it funded, from the unclaimed ones otherwise. -/
def ownTaken (s : State) (pr : Profile) (c : Counter) (t : Station) : Nat :=
  min pr.perStart (match claimOf c t with
    | some r => r.own
    | none => unclaimedOwn s c t)

/-- The lots after a start of station `t` consumed its s credits, own-account credits first, and the ticks consumed
(02 R32, R36). -/
def consumed (s : State) (pr : Profile) (c : Counter) (t : Station) : List Lot × Nat :=
  let own := takeCredits (ofAccount (accountOf s t)) (ownTaken s pr c t) c.lots
  let shared := takeCredits isShared (pr.perStart - ownTaken s pr c t) own.1
  (shared.1, own.2 + shared.2)

/-! ### Held money (09 R145, R147) -/

/-- The value of every lot on a port. -/
def portLots (pt : Port) : Nat := (pt.counters.map fun c => lotsValue c.lots).sum

/-- The in-flight values of the gates whose funding is on port `p`. -/
def portInFlight (s : State) (p : PortNo) : Nat :=
  ((List.finRange 4).map fun t =>
    match (s.gate t).place with
    | some pl => if pl.port = p then (s.gate t).inFlight else 0
    | none => 0).sum

/-- A port's held money (09 R145). -/
def portHeld (s : State) (p : PortNo) : Nat := portInFlight s p + portLots (s.port p)

/-- The cabinet's held money: balances, in-flight values and lots (09 R145, R147). -/
def heldMoney (s : State) : Nat :=
  ((List.finRange 4).map fun a => s.balance a).sum + ((List.finRange 4).map fun t => (s.gate t).inFlight).sum +
    ((List.finRange 8).map fun p => portLots (s.port p)).sum

end Sys2Proof.Machine
end

