-- ==== Sys2Proof/Machine/Flags.lean ====
section
/-! DEFINITION. The output lines of the part, which are functions of its state (00, pin summary): power enable and reset, coin
lines, control lines with START, cabinet meters, source select, band lines, blank and attenuator. -/

namespace Sys2Proof.Machine

/-! ### Ports (04 R56) -/

/-- The states in which power enable is on (04 R56). -/
def PortState.powered : PortState → Bool
  | .powering | .booting | .parked | .live => true
  | .absent | .off | .queued | .stopping => false

/-- The states in which the board runs out of reset (04 R56). -/
def PortState.running : PortState → Bool
  | .booting | .parked | .live => true
  | .absent | .off | .queued | .powering | .stopping => false

/-- Power enable of port `p` is on. -/
def powerEnable (s : State) (p : PortNo) : Bool := (s.port p).state.powered

/-- Reset of port `p` is held. -/
def resetHeld (s : State) (p : PortNo) : Bool := !(s.port p).state.running

/-! ### Numbering of controls and lines (10 R160) -/

def serviceControl : Control := 44
def testControl : Control := 45
def tiltControl : Control := 46

/-- The station, or position, a control or line number belongs to, and its index there; none for SERVICE, TEST, TILT. -/
def ofStation (c : Control) : Option (Fin 4 × Nat) :=
  if h : c.val < 44 then some (⟨c.val / 11, by omega⟩, c.val % 11) else none

/-- The index of START (10 R160). -/
def startIndex : Nat := 10

/-- The START control of station `t`, or the START line of position `t`. -/
def startOf (t : Fin 4) : Control := ⟨t.val * 11 + 10, by omega⟩

/-- A station control, or a position's line, by its index 0 to 10. -/
def controlOf (t : Fin 4) (index : Fin 11) : Control := ⟨t.val * 11 + index.val, by omega⟩

/-- Whether a board line is a START line. -/
def isStart (c : Control) : Bool :=
  match ofStation c with
  | some (_, i) => i == startIndex
  | none => false

/-- Whether a board line belongs to a position above the profile's positions (07 section 7.2). -/
def abovePositions (pr : Profile) (line : Control) : Bool :=
  match ofStation line with
  | some (pos, _) => decide (pr.positions ≤ pos.val)
  | none => false

/-! ### Routes (07 R114, R115, R118) -/

/-- The resolved source of a board line (07 R117): a route's, or GATE for a START line. -/
inductive Resolved where
  | source (r : RouteSource)
  | gate
  deriving DecidableEq, Repr

/-- The default route of a line (07 R115). -/
def defaultRoute (pr : Profile) (line : Control) : Resolved :=
  if isStart line then .gate
  else
    match ofStation line with
    | some (pos, i) =>
      if pr.positions ≤ pos.val then .source .alwaysReleased
      else
        match slot pr.stationMap pos with
        | some t => .source (.control ⟨t.val * 11 + i % 11, by omega⟩)
        | none => .source .alwaysReleased
    | none =>
      if line = tiltControl then .source (.control tiltControl)
      else if line = testControl then
        (if pr.testPass then .source (.control testControl) else .source .alwaysReleased)
      else .source .alwaysReleased

/-- The resolved source of a line: a listed entry, or the default route (07 R115, R117). A port with no profile has no
routes. -/
def resolve (pt : Port) (line : Control) : Resolved :=
  match pt.profile with
  | none => .source .alwaysReleased
  | some pr =>
    if isStart line then .gate
    else
      match pt.routes.find? fun r => r.line == line with
      | some r => .source r.source
      | none => defaultRoute pr line

/-- The index of the physical direction that a direction source follows (07 R118): UP 0, DOWN 1, LEFT 2, RIGHT 3. -/
def rotated : Rotation → Nat → Nat
  | .r0, i => i
  | .r90, 0 => 2 | .r90, 1 => 3 | .r90, 2 => 1 | .r90, 3 => 0
  | .r180, 0 => 1 | .r180, 1 => 0 | .r180, 2 => 3 | .r180, 3 => 2
  | .r270, 0 => 3 | .r270, 1 => 2 | .r270, 2 => 0 | .r270, 3 => 1
  | .r90, i | .r180, i | .r270, i => i

/-- The physical control that a source follows while its port is routed (07 R118). -/
def physical (rot : Rotation) (c : Control) : Control :=
  match ofStation c with
  | some (t, i) => ⟨t.val * 11 + rotated rot i % 11, by omega⟩
  | none => c

/-! ### Control lines (07 R119, R120) -/

/-- The START line of position `pos` of port `p` (06 R90, R92, R101; 07 R120): held while the gate of the mapped station is
PRESSING, and in pass-through, which is the LIVE board's while the gate is IDLE, its guard runs, the cabinet START is held by
a press that was passed (06 R91; log 19) and no cutover is in flight (08 R129 step 4). -/
def startLine (s : State) (p : PortNo) (pos : Position) : Bool :=
  match slot (profileOf s p).stationMap pos with
  | none => false
  | some t =>
    let g := s.gate t
    (g.state == .pressing && (match g.place with
      | some pl => pl.port == p && pl.position == pos
      | none => false)) ||
    (g.state == .idle && g.guardTimer.isSome && slot s.router.passed t && slot s.router.level (startOf t) &&
      (s.port p).state == .live && s.cutover.record.isNone)

/-- The level driven on a control line apart from START (07 R119). -/
def routedLine (s : State) (p : PortNo) (line : Control) : Bool :=
  let pt := s.port p
  match resolve pt line with
  | .gate => false
  | .source .alwaysReleased => false
  | .source .alwaysHeld => pt.state.running
  | .source (.control c) =>
    let phys := physical (profileOf s p).rotation c
    pt.state == .live && s.router.routed == some p && slot s.router.level phys && !slot s.router.marks phys

/-- The level driven on a control line of a port: true is held (07 R119, R120). Lines of a position above positions are
released. -/
def controlLine (s : State) (p : PortNo) (line : Control) : Bool :=
  match (s.port p).profile with
  | none => false
  | some pr =>
    if abovePositions pr line then false
    else
      match ofStation line with
      | some (pos, i) => if i = startIndex then startLine s p pos else routedLine s p line
      | none => routedLine s p line

/-! ### Coin lines, meters, picture and sound -/

/-- A coin line is held exactly while its holder is in a HELD phase (06 R94, R110). -/
def coinLine (s : State) (p : PortNo) (line : CoinLine) : Bool :=
  (List.finRange 4).any fun t =>
    (s.gate t).state == .pulsing && (s.gate t).phase == .held && (match (s.gate t).place with
      | some pl => pl.port == p && pl.line == line
      | none => false)

/-- A cabinet meter's output is energised exactly in ON (01 R15). -/
def meterEnergised (s : State) (m : MeterNo) : Bool := (s.meter m).phase == .on

/-- The number of a crosspoint source: 0 for MENU, n for port n (08 R126). -/
def sourceNumber : Crosspoint → Nat
  | .menu => 0
  | .port p => p.val + 1

/-- The source select output (08 R126). -/
def sourceSelect (s : State) : Nat := sourceNumber s.cutover.live

end Sys2Proof.Machine
end

