-- ==== Sys2Proof/Machine/Gates.lean ====
section
/-! DEFINITION. What the start gates do within an event (chapter 6): pulses and bundles, the coin-line arbiter, pressing, the
funding decision, service credit, aborts. What a gate's return to IDLE tells the cutover controller is in Starts.lean. -/

namespace Sys2Proof.Machine

/-- The place a gate fixed at its press. No rule reads the place of a gate that has none (log 30). -/
def noPlace : Place := ⟨0, 0, 0, 0⟩

/-- The place of gate `t`. -/
def gatePlace (s : State) (t : Station) : Place := (s.gate t).place.getD noPlace

/-- The profile of the port gate `t` works on. -/
def gateProfile (s : State) (t : Station) : Profile := profileOf s (gatePlace s t).port

/-! ### Pulses (06 R95, R96) -/

/-- A pulse begins: its HELD phase (06 R95 step 2). -/
def beginPulse (t : Station) (s : State) : State :=
  modGate t (fun g =>
    { g with phase := .held, begun := g.begun + 1, phaseTimer := some (gateProfile s t).pulseWidth, lockoutTimer := none }) s

/-- The level of the board lockout that the profile names for gate `t`'s coin line (06 R96): released when it names none. -/
def lockoutAsserted (s : State) (t : Station) : Bool :=
  match slot (gateProfile s t).lockout (gatePlace s t).line with
  | none => false
  | some o => slot (s.port (gatePlace s t).port).lockoutIn o

/-- Before each pulse the gate samples the lockout: the pulse begins, or LOCKOUT HOLD (06 R95 step 1, R96). -/
def considerPulse (t : Station) (s : State) : State :=
  if lockoutAsserted s t then
    modGate t (fun g =>
      { g with phase := .lockoutHold, phaseTimer := none, lockoutTimer := some (gateProfile s t).lockoutWait }) s
  else beginPulse t s

/-! ### The coin-line arbiter (06 R94) -/

/-- The arbiter of a place's coin line. -/
def arbiterAt (s : State) (pl : Place) : Arbiter := slot (s.port pl.port).arbiters pl.line

/-- The arbiter of a place's coin line changed. -/
def modArbiter (pl : Place) (f : Arbiter → Arbiter) (s : State) : State :=
  modPort pl.port (fun pt => { pt with arbiters := modSlot pt.arbiters pl.line f }) s

/-- Gate `t` becomes the holder and enters PULSING (06 R94). -/
def grantLine (pl : Place) (t : Station) (s : State) : State :=
  considerPulse t (modGate t (fun g => { g with state := .pulsing }) (modArbiter pl (fun a => { a with holder := some t }) s))

/-- Gate `t`, entering WAITING, asks for its line (06 R94). -/
def requestLine (pl : Place) (t : Station) (s : State) : State :=
  match (arbiterAt s pl).holder with
  | none => grantLine pl t s
  | some _ => modArbiter pl (fun a => { a with waiting := a.waiting ++ [t] }) s

/-- The holder releases the line, and the oldest waiting gate becomes the holder (06 R94). -/
def releaseLine (pl : Place) (s : State) : State :=
  match (arbiterAt s pl).waiting with
  | [] => modArbiter pl (fun a => { a with holder := none }) s
  | t :: rest => grantLine pl t (modArbiter pl (fun a => { a with waiting := rest }) s)

/-- A waiting gate leaves the list (06 R94). -/
def withdrawFromLine (pl : Place) (t : Station) (s : State) : State :=
  modArbiter pl (fun a => { a with waiting := a.waiting.filter (· != t) }) s

/-! ### Bundles (02 R34, R35; 06 R95) -/

/-- The lot a completed bundle of gate `g` makes (02 R34). -/
def bundleLot (pr : Profile) (g : Gate) : Lot :=
  match g.kind with
  | .service => ⟨.service, pr.k, 0⟩
  | .ordinary | .none =>
    if pr.freePlay then ⟨.free, pr.k, 0⟩ else ⟨.account (g.paying.getD 0), pr.k, valuePerCredit pr⟩

/-- A claim record after a bundle of its gate completed (02 R35). -/
def claimAfterBundle (pr : Profile) (kind : FundingKind) (r : Claim) : Claim :=
  let r := { r with planned := r.planned - pr.k }
  match kind with
  | .service => r
  | .ordinary | .none => if pr.freePlay then { r with shared := r.shared + pr.k } else { r with own := r.own + pr.k }

/-- The counter after a bundle of gate `t` completed: the lot made, the claim record updated, and removed at the end of a
service funding (02 R34, R35). -/
def counterAfterBundle (pr : Profile) (g : Gate) (t : Station) (c : Counter) : Counter where
  lots := addLot (bundleLot pr g) c.lots
  claims :=
    match g.kind with
    | .service => c.claims.filter fun r => r.station != t
    | .ordinary | .none => c.claims.map fun r => if r.station = t then claimAfterBundle pr g.kind r else r

/-- The audit a completed bundle advances (06 R95 step 3). -/
def auditBundle (pr : Profile) (kind : FundingKind) (u : PortAudits) : PortAudits :=
  match kind with
  | .service => { u with serviceCredits := satAdd u.serviceCredits pr.k }
  | .ordinary | .none => { u with bundlesFunded := satAdd u.bundlesFunded 1 }

/-- Whether gate `g` holds money for its bundles: an ORDINARY funding without free play (02 R34). -/
def isPaid (pr : Profile) (g : Gate) : Bool := g.kind != .service && !pr.freePlay

/-- A bundle of gate `t` is complete (06 R95 step 3). -/
def completeBundle (t : Station) (s : State) : State :=
  let g := s.gate t
  let pr := gateProfile s t
  let pl := gatePlace s t
  modAudits pl.port (auditBundle pr g.kind)
    (modCounter pl (counterAfterBundle pr g t)
      (modGate t (fun g =>
        { g with
          bundles := g.bundles + 1
          inFlight := if isPaid pr g then g.inFlight - bundleCost pr else g.inFlight }) s))

/-! ### Pressing (06 R100) and the return to IDLE (06 R101, R106) -/

/-- Gate `t` enters PRESSING (06 R100): consumption, claim, money, audits and the PLAYS meter, START PASSED, the press. -/
def enterPressing (t : Station) (s : State) : State :=
  let pr := gateProfile s t
  let pl := gatePlace s t
  let c := counterAt s pl
  let used := consumed s pr c t
  let ticks := used.2
  let s1 := modCounter pl (fun c => dropClaim t { c with lots := used.1 }) s
  let s2 := { s1 with totalOut := satAdd s1.totalOut ticks }
  let s3 := modAudits pl.port (fun u =>
    { u with
      ticksConsumed := satAdd u.ticksConsumed ticks
      starts := satAdd u.starts 1
      freeStarts := if ticks = 0 then satAdd u.freeStarts 1 else u.freeStarts }) s2
  let s4 := post .startPassed (pl.port.val + 1) (t.val + 1) ticks (meterRequest playsMeter 1 s3)
  modGate t (fun g =>
    { g with
      state := .pressing
      phase := .none
      phaseTimer := none
      lockoutTimer := none
      confirmTimer := none
      pressTimer := some pr.pressWidth }) s4

/-- A gate whose funding record is cleared, IDLE, its guard as it stands (06 R101, R102, R106; log 31). -/
def clearedGate (g : Gate) : Gate := { idleGate with guardTimer := g.guardTimer }

/-- Gate `t` returns to IDLE with its funding record cleared. -/
def clearGate (t : Station) (s : State) : State := modGate t clearedGate s

/-! ### Funding (06 R93, R97, R104) -/

/-- An entry for gate `t` at the tail of a meter's expectation queue (06 R97). -/
def expectPulses (p : PortNo) (m : OutputNo) (t : Station) (n : Nat) (s : State) : State :=
  modPort p (fun pt => { pt with expect := modSlot pt.expect m (· ++ [⟨t, n⟩]) }) s

/-- Gate `t`'s entry removed from a meter's expectation queue (06 R97). -/
def dropExpectation (p : PortNo) (m : OutputNo) (t : Station) (s : State) : State :=
  modPort p (fun pt => { pt with expect := modSlot pt.expect m fun q => q.filter fun e => e.station != t }) s

/-- A funding commits (06 R93 step 4, R104 step 3): the gate's record, the claim record, the expectation entry, and the
request for the coin line. -/
def commitFunding (t : Station) (pl : Place) (kind : FundingKind) (paying : Option AccountNo) (inFlight pulses : Nat)
    (claim : Claim) (s : State) : State :=
  let meter := slot (profileOf s pl.port).confirm pl.line
  let s1 := modGate t (fun g =>
    { g with
      state := .waiting
      kind := kind
      place := some pl
      paying := paying
      inFlight := inFlight
      planned := pulses
      begun := 0
      bundles := 0
      phase := .none
      entry := meter
      early := false }) s
  let s2 := modCounter pl (fun c => { c with claims := c.claims ++ [claim] }) s1
  let s3 := match meter with
    | none => s2
    | some m => expectPulses pl.port m t pulses s2
  requestLine pl t s3

/-- The funding decision of an IDLE gate with no guard (06 R93). -/
def decideFunding (t : Station) (pl : Place) (s : State) : State :=
  let pr := profileOf s pl.port
  let c := counterAt s pl
  let own := ownCredits s c t
  let n := bundlesNeeded pr own
  let cost := if pr.freePlay then 0 else n * bundleCost pr
  let account := accountOf s t
  let claim : Claim := ⟨t, unclaimedOwn s c t, unclaimedShared c t, n * pr.k⟩
  if pr.perStart ≤ own then
    enterPressing t (modGate t (fun g => { g with kind := .ordinary, place := some pl }) s)
  else if !boardHolds pr c n then post .startRefused (pl.port.val + 1) (hiLo (t.val + 1) 2) cost s
  else if pr.freePlay then commitFunding t pl .ordinary (some account) 0 (n * pr.c) claim s
  else if !covered account cost s then post .startRefused (pl.port.val + 1) (hiLo (t.val + 1) 1) cost s
  else commitFunding t pl .ordinary (some account) cost (n * pr.c) claim (charge pl.port account cost s)

/-- Whether a START press of station `t` is passed through to the board (06 R91): the one row of the table that passes it, which
asks for a LIVE port, no cutover in flight, a mapped station, and an IDLE gate under its guard. -/
def passesThrough (s : State) (t : Station) : Bool :=
  match livePort s with
  | none => false
  | some p =>
    s.cutover.record.isNone && (positionOf (profileOf s p) t).isSome && (s.gate t).state == .idle &&
      (s.gate t).guardTimer.isSome

/-- A START press taken by gate `t` (06 R91), its conditions in the order of the table. -/
def startPress (t : Station) (s : State) : State :=
  match livePort s with
  | none => s
  | some p =>
    if s.cutover.record.isSome then s
    else
      match positionOf (profileOf s p) t with
      | none => s
      | some pos =>
        if (s.gate t).state ≠ .idle then s
        else if (s.gate t).guardTimer.isSome then s
        else decideFunding t (placeOf (profileOf s p) p pos) s

/-- Serving a service credit on gate 1 (06 R104). -/
def serveService (s : State) : State :=
  match livePort s with
  | none => s
  | some p =>
    let pr := profileOf s p
    match positionOf pr 0 with
    | none => s
    | some pos =>
      let pl := placeOf pr p pos
      if boardHolds pr (counterAt s pl) 1 then commitFunding 0 pl .service none 0 pr.c ⟨0, 0, 0, pr.k⟩ s
      else post .serviceRefused (p.val + 1) 0 0 s

/-- A press of cabinet SERVICE taken by gate 1 (06 R103). -/
def servicePress (s : State) : State :=
  if !s.settings.serviceEnabled then s
  else
    match livePort s with
    | none => s
    | some p =>
      if s.cutover.record.isSome then s
      else if (positionOf (profileOf s p) 0).isNone then s
      else if s.servicePending then s
      else if (s.gate 0).state ≠ .idle then { s with servicePending := true }
      else serveService s

/-- A pending service served at gate 1's return to IDLE (06 R105). -/
def servePending (t : Station) (s : State) : State :=
  if t = 0 ∧ s.servicePending then serveService { s with servicePending := false } else s

/-! ### Aborts (06 R102) -/

/-- The reasons of FUNDING ABORTED (11 R163). -/
inductive AbortReason where
  | lockedOut | stopped | reset
  deriving DecidableEq, Repr

def AbortReason.code : AbortReason → Nat
  | .lockedOut => 1 | .stopped => 2 | .reset => 3

/-- The line of an aborting gate: a WAITING gate is withdrawn, a PULSING gate releases its line (06 R102 step 1). -/
def abandonLine (t : Station) (s : State) : State :=
  match (s.gate t).state with
  | .waiting => withdrawFromLine (gatePlace s t) t s
  | .pulsing => releaseLine (gatePlace s t) s
  | .idle | .confirming | .pressing => s

/-- The pulses begun of the bundle not completed (06 R102 step 2). -/
def orphans (pr : Profile) (g : Gate) : Nat := g.begun - g.bundles * pr.c

/-- Gate `t` aborts (06 R102): line, orphan pulses, in-flight, entry, claim, state, event (log 21). -/
def abortGate (reason : AbortReason) (t : Station) (s : State) : State :=
  let g := s.gate t
  let pr := gateProfile s t
  let pl := gatePlace s t
  if g.state = .idle then s
  else
    let s1 := abandonLine t s
    let s2 := modAudits pl.port (fun u => { u with orphanPulses := satAdd u.orphanPulses (orphans pr g) }) s1
    let s3 := refund pl.port (g.paying.getD 0) g.inFlight s2
    let s4 := match g.entry with
      | none => s3
      | some m => dropExpectation pl.port m t s3
    let s5 := clearGate t (modCounter pl (dropClaim t) s4)
    post .fundingAborted (pl.port.val + 1) (hiLo (t.val + 1) reason.code) g.inFlight s5

/-- Every gate out of IDLE aborts, in station order (log 14), every guard ends, and the service-pending flag is cleared
(03 R43 step 2, 04 R70 step 1, 06 R102). -/
def abortGates (reason : AbortReason) (s : State) : State :=
  let s1 := abortGate reason 3 (abortGate reason 2 (abortGate reason 1 (abortGate reason 0 s)))
  { s1 with gates := mapSlots (fun g => { g with guardTimer := none }) s1.gates, servicePending := false }

/-- Whether all four gates are IDLE and gate 1's service-pending flag is clear (06 R107). -/
def gatesQuiet (s : State) : Bool :=
  ((List.finRange 4).all fun t => (s.gate t).state == .idle) && !s.servicePending

end Sys2Proof.Machine
end

