-- ==== Sys2Proof/Machine/Boards.lean ====
section
/-! DEFINITION. What board life and the power sequencer do within an event (chapter 4): the entry to STOPPING, lot refunds,
eviction, serving the power queue, power-up requests, CHECK and the miss streak. -/

namespace Sys2Proof.Machine

/-! ### Selections as board life sees them (04 R59) -/

/-- The reasons of CUTOVER FAILED (11 R163). -/
inductive FailReason where
  | superseded | band | noPower | boot | stopped | targetLost
  deriving DecidableEq, Repr

def FailReason.code : FailReason → Nat
  | .superseded => 1 | .band => 2 | .noPower => 3 | .boot => 4 | .stopped => 5 | .targetLost => 6

/-- CUTOVER FAILED posted for a target (11 R163). -/
def postFailed (target : Crosspoint) (reason : FailReason) (s : State) : State :=
  post .cutoverFailed (sourceNumber target) reason.code 0 s

/-- Port `p` is the pending selection. -/
def isPendingSel (s : State) (p : PortNo) : Bool := s.cutover.pendingSel == some (.port p)

/-- Port `p` is the target of the cutover in flight. -/
def isTarget (s : State) (p : PortNo) : Bool :=
  match s.cutover.record with
  | some r => r.target == .port p
  | none => false

/-- Port `p` is a selection target (04 R59). -/
def isSelectionTarget (s : State) (p : PortNo) : Bool := isPendingSel s p || isTarget s p

/-- If port `p` is the pending selection, the pending selection is cleared and CUTOVER FAILED is posted. -/
def failPending (p : PortNo) (reason : FailReason) (s : State) : State :=
  if isPendingSel s p then postFailed (.port p) reason (modCutover (fun c => { c with pendingSel := none }) s) else s

/-! ### Routing ends (07 R120) -/

/-- The routed port becomes none, which clears every release-required mark (07 R120). -/
def unroute (s : State) : State :=
  modRouter (fun r => { r with routed := none, marks := Vector.replicate 47 false }) s

/-! ### The entry to STOPPING (04 R70) -/

/-- The monitor of a port that stops (05 R78): what was being measured is discarded, the figures are kept for reading
(log 22). -/
def stopMonitor (m : Monitor) : Monitor :=
  { m with state := .stopped, pulse := none, frame := none, h := 0, lastEdge := none }

/-- One lot refunded to the account that paid (02 R37). -/
def refundLot (p : PortNo) (l : Lot) (s : State) : State :=
  match l.source with
  | .account a => refund p a (l.credits * l.value) s
  | .free | .service => s

/-- Every lot of port `p` refunded, counters in position order and lots oldest first, and every counter left empty
(02 R37). -/
def refundLots (p : PortNo) (s : State) : State :=
  let lots := (s.port p).counters.flatMap Counter.lots
  modPort p (fun pt => { pt with counters := pt.counters.map fun _ => emptyCounter })
    (lots.foldl (fun s l => refundLot p l s) s)

/-- A port's own record as it enters STOPPING (04 R70 steps 2, 3 and 6; log 35). -/
def stoppedPort (pt : Port) : Port :=
  { pt with
    state := .stopping
    settleTimer := none
    bootTimer := none
    dischargeTimer := some Config.discharge
    meterIn := mapSlots (fun m => { m with timer := none }) pt.meterIn
    monitor := stopMonitor pt.monitor }

/-- Port `p` enters STOPPING (04 R70). -/
def enterStopping (p : PortNo) (s : State) : State :=
  let s1 := if (s.port p).state = .live then abortGates .stopped s else s
  let s2 := if s1.router.routed = some p then unroute s1 else s1
  let s3 := refundLots p (modPort p stoppedPort s2)
  { s3 with recency := s3.recency.filter (· != p) }

/-! ### CHECK and the miss streak (04 R74, R75) -/

def setCheck (p : PortNo) (s : State) : State := modPort p (fun pt => { pt with check := true }) s

/-- A confirmation reported by a gate (04 R75). -/
def confirmReport (p : PortNo) (s : State) : State := modPort p (fun pt => { pt with missStreak := 0 }) s

/-- A miss reported by a gate (04 R75). -/
def missReport (p : PortNo) (s : State) : State :=
  modPort p (fun pt =>
    if Config.missLimit ≤ pt.missStreak + 1 then { pt with missStreak := 0, check := true }
    else { pt with missStreak := pt.missStreak + 1 }) s

/-! ### The power sequencer (04 R62 to R66) -/

/-- The states whose ports count in the running load (04 R56). -/
def countsInLoad (st : PortState) : Bool := st.powered

/-- A port's profile load. -/
def portLoad (s : State) (p : PortNo) : Nat :=
  match (s.port p).profile with
  | some pr => pr.load
  | none => 0

/-- The running load (04 R63). -/
def runningLoad (s : State) : Nat :=
  ((List.finRange 8).map fun p => if countsInLoad (s.port p).state then portLoad s p else 0).sum

/-- The ports POWERING (04 R62). -/
def poweringCount (s : State) : Nat := ((List.finRange 8).filter fun p => (s.port p).state == .powering).length

/-- A port that eviction may stop (04 R64). -/
def evictable (s : State) (p : PortNo) : Bool :=
  (s.port p).state == .parked && !(profileOf s p).keep && !isSelectionTarget s p

/-- The head's load fits the budget (04 R63). -/
def headFits (s : State) (h : PortNo) : Bool := decide (runningLoad s + portLoad s h ≤ s.settings.powerBudget)

/-- The head enters POWERING (04 R66). -/
def enterPowering (h : PortNo) (s : State) : State :=
  modPort h (fun pt => { pt with state := .powering, settleTimer := some (profileOf s h).powerSettle }) s

/-- The head is refused into OFF (04 R65). -/
def refusePower (h : PortNo) (s : State) : State :=
  failPending h .noPower
    (post .powerRefused (h.val + 1) (portLoad s h) (runningLoad s) (modPort h (fun pt => { pt with state := .off }) s))

/-- Port `e` is evicted for the power-up of `h` (04 R64). -/
def evictPort (e h : PortNo) (s : State) : State := post .boardEvicted (e.val + 1) (h.val + 1) 0 (enterStopping e s)

/-- The walk over the evictable ports, from the recency tail, until the head fits (04 R64). -/
def evictUntilFits (h : PortNo) : List PortNo → State → State
  | [], s => if headFits s h then enterPowering h s else refusePower h s
  | e :: es, s =>
    let s' := evictPort e h s
    if headFits s' h then enterPowering h s' else evictUntilFits h es s'

/-- The evictable ports, from the recency tail towards its head (04 R64). -/
def evictionOrder (s : State) : List PortNo := s.recency.reverse.filter fun p => evictable s p

/-- The head, already out of the queue, is placed or refused (04 R62, R64, R65). -/
def placeHead (h : PortNo) (s : State) : State :=
  let order := evictionOrder s
  if headFits s h then enterPowering h s
  else if s.settings.powerBudget < runningLoad s - (order.map fun p => portLoad s p).sum + portLoad s h then refusePower h s
  else evictUntilFits h order s

/-- Heads are served while a slot is free (04 R62): at most `n` of them. -/
def serveHeads : Nat → State → State
  | 0, s => s
  | n + 1, s =>
    match s.powerQueue with
    | [] => s
    | h :: rest =>
      if poweringCount s < Config.powerSlots then serveHeads n (placeHead h { s with powerQueue := rest }) else s

/-- The sequencer serves the queue (04 R62). Each head served leaves the queue, so its length bounds the heads. -/
def serveQueue (s : State) : State := serveHeads s.powerQueue.length s

/-- An OFF port becomes QUEUED at the tail of the power queue, and the queue is served (04 R58, R61, R62). -/
def enqueuePort (p : PortNo) (s : State) : State :=
  let s1 := modPort p (fun pt => { pt with state := .queued }) s
  serveQueue { s1 with powerQueue := s1.powerQueue ++ [p] }

/-- A power-up request (04 R58, R59): an OFF port is queued, a STOPPING port gains restart-requested. -/
def requestPower (p : PortNo) (s : State) : State :=
  match (s.port p).state with
  | .off => enqueuePort p s
  | .stopping => modPort p (fun pt => { pt with restart := true }) s
  | .absent | .queued | .powering | .booting | .parked | .live => s

end Sys2Proof.Machine
end

