-- ==== Sys2Proof/Decode.lean ====
section
/-! DEFINITION. Reading and spelling the frames of the selector port (10 R150, R151, R156, R157 to R160), and the host's
`decodeTableWord`: no row of spec/opcode_table.json gives bits, so no word spells a command by them. -/

namespace Sys2Proof

/-- The code byte of a command (10 R157, R158, R159). -/
def Code.byte : Code → Byte
  | .startRun => 0x10 | .enterSetup => 0x11 | .restart => 0x1F | .writeCabinet => 0x20 | .readCabinet => 0x21
  | .writeProfile => 0x30 | .readProfile => 0x31 | .clearProfile => 0x32 | .writeRoutes => 0x34 | .readRoutes => 0x35
  | .select => 0x40 | .powerUp => 0x41 | .powerDown => 0x42 | .readPort => 0x48 | .readStatus => 0x49
  | .readControls => 0x50 | .readAccounts => 0x58 | .loadAccount => 0x59 | .clearAccounts => 0x5A
  | .readEvents => 0x60 | .readAudits => 0x68 | .clearAudits => 0x69

/-- The command a code byte names, if it names one (10 R157, R158, R159). -/
def Code.ofByte (b : Byte) : Option Code :=
  match b.toNat with
  | 0x10 => some .startRun | 0x11 => some .enterSetup | 0x1F => some .restart
  | 0x20 => some .writeCabinet | 0x21 => some .readCabinet
  | 0x30 => some .writeProfile | 0x31 => some .readProfile | 0x32 => some .clearProfile
  | 0x34 => some .writeRoutes | 0x35 => some .readRoutes
  | 0x40 => some .select | 0x41 => some .powerUp | 0x42 => some .powerDown
  | 0x48 => some .readPort | 0x49 => some .readStatus
  | 0x50 => some .readControls | 0x58 => some .readAccounts | 0x59 => some .loadAccount | 0x5A => some .clearAccounts
  | 0x60 => some .readEvents | 0x68 => some .readAudits | 0x69 => some .clearAudits
  | _ => none

/-- Whether a payload has the length the command takes (10 R151 test 5): the lengths of 10 section 10.4, and for WRITE
ROUTES 2 + 2 × count, the count being its second byte. -/
def Code.lengthFits : Code → List Byte → Bool
  | .startRun, p | .enterSetup, p | .restart, p | .readCabinet, p | .readStatus, p | .readControls, p
  | .readAccounts, p | .clearAccounts, p | .readEvents, p | .clearAudits, p => p.length == 0
  | .readProfile, p | .clearProfile, p | .readRoutes, p | .powerUp, p | .powerDown, p | .readPort, p
  | .readAudits, p => p.length == 1
  | .select, p => p.length == 2
  | .loadAccount, p => p.length == 3
  | .writeCabinet, p => p.length == 33
  | .writeProfile, p => p.length == 42
  | .writeRoutes, p =>
    match p with
    | _ :: count :: rest => rest.length == 2 * count.toNat
    | _ => false

/-- Whether a command takes a payload: one of its length (10 R151 test 5), which the receive frame can hold (test 1). -/
def Code.takes (c : Code) (payload : List Byte) : Bool :=
  c.lengthFits payload && decide (payload.length ≤ Config.lengthMax)

/-- The XOR of a list of bytes: the check byte of a frame (10 R151, R156). -/
def checkByte (bytes : List Byte) : Byte := bytes.foldl (· ^^^ ·) 0

/-- A command frame: code byte, length byte, payload, check byte (10 R151). -/
def commandFrame (code : Code) (payload : List Byte) : List Byte :=
  let body := code.byte :: BitVec.ofNat 8 payload.length :: payload
  body ++ [checkByte body]

/-- What the judging of a command transaction's bytes comes to (10 R150, R151). -/
inductive Verdict where
  /-- no first byte of a command: the transaction is IGNORED, or is a FETCH, and nothing is judged (R150) -/
  | notCommand
  /-- tests 1 and 5: INVALID (bad length) -/
  | badLength
  /-- tests 2 and 3: CHECK ERROR -/
  | checkError
  /-- test 4: INVALID (unknown code) -/
  | unknownCode
  /-- the frame passes: the command's own checks follow -/
  | command (code : Code) (payload : List Byte)
  deriving DecidableEq, Repr

/-- The judging of a transaction's bytes, in the order of 10 R151. Bytes past the 123rd are not collected, and bytes after
the check byte are ignored. -/
def judgeFrame (bytes : List Byte) : Verdict :=
  match bytes.take Config.frameBytes with
  | [] => .notCommand
  | code :: rest =>
    if code.toNat = 0 ∨ 0x80 ≤ code.toNat then .notCommand
    else
      match rest with
      | [] => .checkError
      | len :: body =>
        if Config.lengthMax < len.toNat then .badLength
        else
          match body[len.toNat]? with
          | none => .checkError
          | some check =>
            if check ≠ checkByte (code :: len :: body.take len.toNat) then .checkError
            else
              match Code.ofByte code with
              | none => .unknownCode
              | some c =>
                if c.lengthFits (body.take len.toNat) then .command c (body.take len.toNat) else .badLength

/-- The frame that spells a row of the table, for the rows that are commands of the selector port: its code and its
payload bytes, two-byte fields most significant byte first (10 R160). -/
def Instr.spell : Instr → Option (Code × List Byte)
  | .startRun => some (.startRun, [])
  | .enterSetup => some (.enterSetup, [])
  | .restart => some (.restart, [])
  | .writeCabinet r => some (.writeCabinet, r)
  | .readCabinet => some (.readCabinet, [])
  | .writeProfile p r => some (.writeProfile, p :: r)
  | .readProfile p => some (.readProfile, [p])
  | .clearProfile p => some (.clearProfile, [p])
  | .writeRoutes p n es => some (.writeRoutes, p :: n :: es)
  | .readRoutes p => some (.readRoutes, [p])
  | .select t m => some (.select, [t, m])
  | .powerUp p => some (.powerUp, [p])
  | .powerDown p => some (.powerDown, [p])
  | .readPort p => some (.readPort, [p])
  | .readStatus => some (.readStatus, [])
  | .readControls => some (.readControls, [])
  | .readAccounts => some (.readAccounts, [])
  | .loadAccount a b => some (.loadAccount, [a, b.extractLsb' 8 8, b.extractLsb' 0 8])
  | .clearAccounts => some (.clearAccounts, [])
  | .readEvents => some (.readEvents, [])
  | .readAudits x => some (.readAudits, [x])
  | .clearAudits => some (.clearAudits, [])
  | .powerOnReset _ _ | .rawInputEdge _ _ | .debouncedChange _ | .resetPinAsserted | .warmReset | .chuteLeadingEdge _
  | .chuteTrailingEdge _ | .maxWidthExpiry _ | .gapTimerExpiry _ | .jamClearExpiry _ | .meterOnExpiry _
  | .meterOffExpiry _ | .settleTimerExpiry _ | .bootTimerExpiry _ | .dischargeTimerExpiry _ | .syncFallingEdge _ _
  | .syncRisingEdge _ _ | .lastEdgeTimerExpiry _ | .endOfHeld _ | .endOfGap _ | .boardLockoutRelease _ _ _
  | .lockoutWaitExpiry _ | .boardMeterPulse _ _ | .confirmTimerExpiry _ | .pressTimerExpiry _ | .guardTimerExpiry _
  | .chordTimerExpiry | .monitorSettleExpiry | .rampStepExpiry | .shownSecondsTick _ | .fetchStart | .fetchEnd _
  | .droppedTransaction | .responsePlacement | .frameError _ | .resetPinReleased | .meterOutputEdge _ _ _
  | .chipSelectFallingEdge => none

/-- The row of the table that a code and a payload of the right length spell (10 section 10.4). -/
def instrOf : Code → List Byte → Option Instr
  | .startRun, [] => some .startRun
  | .enterSetup, [] => some .enterSetup
  | .restart, [] => some .restart
  | .writeCabinet, r => some (.writeCabinet r)
  | .readCabinet, [] => some .readCabinet
  | .writeProfile, p :: r => some (.writeProfile p r)
  | .readProfile, [p] => some (.readProfile p)
  | .clearProfile, [p] => some (.clearProfile p)
  | .writeRoutes, p :: n :: es => some (.writeRoutes p n es)
  | .readRoutes, [p] => some (.readRoutes p)
  | .select, [t, m] => some (.select t m)
  | .powerUp, [p] => some (.powerUp p)
  | .powerDown, [p] => some (.powerDown p)
  | .readPort, [p] => some (.readPort p)
  | .readStatus, [] => some .readStatus
  | .readControls, [] => some .readControls
  | .readAccounts, [] => some .readAccounts
  | .loadAccount, [a, hi, lo] => some (.loadAccount a (hi ++ lo))
  | .clearAccounts, [] => some .clearAccounts
  | .readEvents, [] => some .readEvents
  | .readAudits, [x] => some (.readAudits x)
  | .clearAudits, [] => some .clearAudits
  | _, _ => none

/-- The row a whole command frame spells, if it passes the tests of 10 R151. -/
def decodeFrame (bytes : List Byte) : Option Instr :=
  match judgeFrame bytes with
  | .command c p => instrOf c p
  | _ => none

/-- The frame that spells a row, if the row is a command of the selector port. -/
def encodeFrame (i : Instr) : Option (List Byte) := i.spell.map fun cp => commandFrame cp.1 cp.2

/-- The host's question: the command a word spells by the table's bits. No row of the table gives bits, so none. -/
def decodeTableWord (_nbits _w : Nat) : Option Instr := none

end Sys2Proof
end

