-- ==== Sys2Proof/Machine/Operands.lean ====
section
/-! DEFINITION. The byte forms of 10 section 10.5: codes, multi-byte fields, the cabinet record, the profile record, route
entries, lot and event records, response frames; and the field checks of WRITE CABINET, WRITE PROFILE and WRITE ROUTES with
the offsets their INVALID answers carry (03 R46, R47, R52; 07 R116; 10 R156, R160). -/

namespace Sys2Proof.Machine

/-! ### Numbers (10 R160) -/

def byte (n : Nat) : Byte := BitVec.ofNat 8 n
/-- A two-byte field, most significant byte first. -/
def be16 (n : Nat) : List Byte := [byte (n / 256), byte n]
/-- A four-byte field, most significant byte first. -/
def be32 (n : Nat) : List Byte := [byte (n / 16777216), byte (n / 65536), byte (n / 256), byte n]
def yesNo (b : Bool) : Byte := if b then 1 else 0
/-- "None" in a one-byte field. -/
def noneByte : Byte := 0xFF
/-- "None" in a two-byte field. -/
def noneHalf : Nat := 0xFFFF
/-- A one-byte field that may be none. -/
def byteOrNone : Option Nat → Byte
  | some n => byte n
  | none => noneByte
/-- A two-byte field that may be none. -/
def halfOrNone : Option Nat → List Byte
  | some n => be16 n
  | none => be16 noneHalf

/-- The byte of a record at an offset. -/
def at8 (r : List Byte) (i : Nat) : Nat := (r.getD i 0).toNat
/-- The two-byte field of a record at an offset. -/
def at16 (r : List Byte) (i : Nat) : Nat := 256 * at8 r i + at8 r (i + 1)

/-- 47 levels as 6 bytes: bit j of byte j ÷ 8 for control j (10 section 10.5, READ CONTROLS). -/
def packBits (bits : List Bool) : List Byte :=
  (List.range 6).map fun k =>
    byte ((List.range 8).foldl (fun n j => n + if bits.getD (8 * k + j) false then 2 ^ j else 0) 0)

/-! ### Codes (10 R160) -/

def Band.code : Band → Nat
  | .l => 1 | .m => 2 | .h => 3
def bandCode : Option Band → Nat
  | none => 0
  | some b => b.code
def Band.ofCode : Nat → Option Band
  | 1 => some .l | 2 => some .m | 3 => some .h | _ => none
/-- Whether a band is strapped. -/
def BandSet.has (x : BandSet) : Band → Bool
  | .l => x.l | .m => x.m | .h => x.h
def Mode.code : Mode → Nat
  | .setup => 0 | .run => 1
def AccountMode.code : AccountMode → Nat
  | .shared => 0 | .perStation => 1
def CreditMode.code : CreditMode → Nat
  | .common => 0 | .separate => 1
def LeaveAction.code : LeaveAction → Nat
  | .park => 0 | .stop => 1
def Rotation.code : Rotation → Nat
  | .r0 => 0 | .r90 => 1 | .r180 => 2 | .r270 => 3
def PortState.code : PortState → Nat
  | .absent => 0 | .off => 1 | .queued => 2 | .powering => 3 | .booting => 4 | .parked => 5 | .live => 6 | .stopping => 7
def MonitorState.code : MonitorState → Nat
  | .stopped => 0 | .searching => 1 | .locked => 2
def GateState.code : GateState → Nat
  | .idle => 0 | .waiting => 1 | .pulsing => 2 | .confirming => 3 | .pressing => 4
def FundingKind.code : FundingKind → Nat
  | .none => 0 | .ordinary => 1 | .service => 2
def PulsePhase.code : PulsePhase → Nat
  | .none => 0 | .held => 1 | .gap => 2 | .lockoutHold => 3
def ChuteState.code : ChuteState → Nat
  | .quiet => 0 | .timing => 1 | .jammed => 2
def MeterPhase.code : MeterPhase → Nat
  | .idle => 0 | .on => 1 | .off => 2
def ChordState.code : ChordState → Nat
  | .idle => 0 | .timing => 1 | .fired => 2
def CutoverPhase.code : CutoverPhase → Nat
  | .hold => 1 | .mute => 2 | .band => 3 | .align => 4 | .shown => 5
def LotSource.code : LotSource → Nat
  | .account a => a.val + 1 | .free => 0x10 | .service => 0x11
def RouteSource.code : RouteSource → Nat
  | .control c => c.val | .alwaysReleased => 0x80 | .alwaysHeld => 0x81
def Resolved.code : Resolved → Nat
  | .source r => r.code | .gate => 0x82
def ResponseClass.code : ResponseClass → Nat
  | .done => 0 | .accepted => 1 | .notSettled => 2 | .refused => 3 | .invalid => 4 | .checkError => 5 | .empty => 6
/-- The event kinds' codes (10 section 10.5). -/
def EventKind.code : EventKind → Nat
  | .powerOn => 0x01 | .restarted => 0x02 | .coin => 0x10 | .chuteJam => 0x11 | .chuteClear => 0x12
  | .meterSaturated => 0x13 | .startPassed => 0x20 | .startRefused => 0x21 | .fundingAborted => 0x22
  | .confirmMissed => 0x23 | .strayMeter => 0x24 | .serviceRefused => 0x25 | .boardReady => 0x30 | .boardLost => 0x31
  | .bootFailed => 0x32 | .boardEvicted => 0x33 | .powerRefused => 0x34 | .cutoverDone => 0x40 | .cutoverFailed => 0x41
  | .chord => 0x50 | .testPressed => 0x51

/-! ### Responses (10 R156) -/

/-- The refusal reasons (10 R156). -/
inductive RefusalReason where
  | notRun | notSetup | absent | noProfile | check | live | notOff
  deriving DecidableEq, Repr

def RefusalReason.code : RefusalReason → Nat
  | .notRun => 1 | .notSetup => 2 | .absent => 3 | .noProfile => 4 | .check => 5 | .live => 6 | .notOff => 7

/-- The class and payload a command is answered with. -/
structure Reply where
  cls : ResponseClass
  payload : List Byte
  deriving DecidableEq, Repr

def doneReply (payload : List Byte) : Reply := ⟨.done, payload⟩
def acceptedReply (payload : List Byte) : Reply := ⟨.accepted, payload⟩
def refusedReply (r : RefusalReason) : Reply := ⟨.refused, [byte r.code]⟩
/-- INVALID (field out of range), with the offset of the failing field. -/
def outOfRange (offset : Nat) : Reply := ⟨.invalid, [3, byte offset]⟩
def unknownCodeReply : Reply := ⟨.invalid, [1, 0xFF]⟩
def badLengthReply : Reply := ⟨.invalid, [2, 0xFF]⟩
def checkErrorReply : Reply := ⟨.checkError, []⟩

/-- A response frame's header: class in the low three bits, OVERRUN in the high bit (10 R156). -/
def Response.header (r : Response) : Byte := byte (r.cls.code + if r.overrun then 0x80 else 0)

/-- A response frame's bytes: header, echoed code, length, payload, check (10 R156). -/
def Response.bytes (r : Response) : List Byte :=
  let body := r.header :: r.code :: byte r.payload.length :: r.payload
  body ++ [checkByte body]

/-- The EMPTY frame (10 R154). -/
def emptyResponse : Response := ⟨.empty, false, 0, []⟩

/-! ### Small operands -/

/-- A port byte: 1 to 8 names a port (10 R158). -/
def portOf (b : Byte) : Option PortNo := if h : 1 ≤ b.toNat ∧ b.toNat ≤ 8 then some ⟨b.toNat - 1, by omega⟩ else none

/-- A control number: 0 to 46 (10 R160). -/
def controlNo (n : Nat) : Option Control := if h : n < 47 then some ⟨n, h⟩ else none

/-- A station or account byte: 1 to 4. -/
def quarterOf (n : Nat) : Option (Fin 4) := if h : 1 ≤ n ∧ n ≤ 4 then some ⟨n - 1, by omega⟩ else none

/-- An output byte: 1 or 2 names a meter or lockout output, 0 is NONE. -/
def outputOf (n : Nat) : Option OutputNo := if n = 1 then some 0 else if n = 2 then some 1 else none

/-- A value clamped to the nearest end of its range (03 section 3.4). -/
def clamp (lo hi x : Nat) : Nat := if x < lo then lo else if hi < x then hi else x

/-- Whether a port is installed (03 R41). -/
def installed (s : State) (p : PortNo) : Bool := decide (p.val < s.straps.installed)

/-! ### Field checks -/

/-- A check and the offsets of the fields that fail it together: none when it holds. -/
abbrev FieldCheck := Option (List Nat)

/-- A check of one field at one offset. -/
def field (ok : Bool) (offset : Nat) : FieldCheck := if ok then none else some [offset]

/-- A check of several fields together, with the offsets of those that break it. -/
def jointly (ok : Bool) (offsets : List Nat) : FieldCheck := if ok then none else some offsets

/-- The offset an INVALID answer carries (10 R156): that of the failing field of the first failing check, and a free choice
among the fields that fail it together (log 15). -/
def firstFailing (payload : List Byte) : List FieldCheck → Option Nat
  | [] => none
  | none :: cs => firstFailing payload cs
  | some [] :: cs => firstFailing payload cs
  | some [o] :: _ => some o
  | some (o :: os) :: _ => some ((o :: os).getD (Config.blamed payload % (os.length + 1)) o)

/-- The load of a port's profile, 0 without one. -/
def loadOf (pt : Port) : Nat :=
  match pt.profile with
  | some pr => pr.load
  | none => 0

/-! ### The cabinet record (10 section 10.5; 03 R46, R47) -/

/-- The checks of WRITE CABINET in the order of 03 R47; the payload is the record. Step 1 takes every structural field, the
chord controls and the code of the menu band among them, in the record's order (log 16). -/
def cabinetChecks (s : State) (r : List Byte) : List FieldCheck :=
  [field (at8 r 0 ≤ 1) 0] ++
  ((List.range 4).map fun i => field (1 ≤ at8 r (1 + i) && at8 r (1 + i) ≤ 100) (1 + i)) ++
  ((List.range 4).map fun i => field (at8 r (5 + i) ≤ 1) (5 + i)) ++
  [field (at8 r 20 ≤ 1) 20, field (at8 r 21 < 47) 21, field (at8 r 22 < 47) 22,
   field (Band.ofCode (at8 r 27)).isSome 27, field (at8 r 32 ≤ 1) 32,
   jointly (at8 r 21 != at8 r 22) [21, 22],
   field (match Band.ofCode (at8 r 27) with
     | some b => s.straps.bands.has b
     | none => false) 27,
   field (clamp 5 100 (at16 r 9) < clamp 20 250 (at16 r 11)) 11,
   field ((List.finRange 8).all fun p => loadOf (s.port p) ≤ clamp 4 80 (at8 r 31)) 31]

/-- The settings a cabinet record spells, its timing fields clamped (03 R46, R47). -/
def settingsOf (r : List Byte) : Settings where
  accountMode := if at8 r 0 = 0 then .shared else .perStation
  chuteValue := #v[at8 r 1, at8 r 2, at8 r 3, at8 r 4]
  chuteEnabled := #v[at8 r 5 == 1, at8 r 6 == 1, at8 r 7 == 1, at8 r 8 == 1]
  minWidth := clamp 5 100 (at16 r 9)
  maxWidth := clamp 20 250 (at16 r 11)
  minGap := clamp 10 200 (at16 r 13)
  softCeiling := clamp 1 250 (at8 r 15)
  meterOn := clamp 20 200 (at16 r 16)
  meterOff := clamp 20 200 (at16 r 18)
  chordEnable := at8 r 20 == 1
  chordFirst := (controlNo (at8 r 21)).getD 0
  chordSecond := (controlNo (at8 r 22)).getD 0
  chordHold := clamp 1000 5000 (at16 r 23)
  monitorSettle := clamp 0 3000 (at16 r 25)
  menuBand := (Band.ofCode (at8 r 27)).getD .l
  menuTrim := clamp 0 15 (at8 r 28)
  soundRamp := clamp 0 500 (at16 r 29)
  powerBudget := clamp 4 80 (at8 r 31)
  serviceEnabled := at8 r 32 == 1

/-- The 33 bytes of the cabinet record. -/
def cabinetBytes (st : Settings) : List Byte :=
  [byte st.accountMode.code] ++ (st.chuteValue.toList.map byte) ++ (st.chuteEnabled.toList.map yesNo) ++
  be16 st.minWidth ++ be16 st.maxWidth ++ be16 st.minGap ++ [byte st.softCeiling] ++ be16 st.meterOn ++ be16 st.meterOff ++
  [yesNo st.chordEnable, byte st.chordFirst.val, byte st.chordSecond.val] ++ be16 st.chordHold ++ be16 st.monitorSettle ++
  [byte st.menuBand.code, byte st.menuTrim] ++ be16 st.soundRamp ++ [byte st.powerBudget, yesNo st.serviceEnabled]

/-! ### The profile record (10 section 10.5; 03 R52) -/

/-- The coin lines a credit mode uses: line 1 for COMMON, lines 1 to positions for SEPARATE (03 R52). -/
def lineUsed (separate : Bool) (positions line : Nat) : Bool := if separate then decide (line < positions) else line == 0

/-- The checks of a profile record (03 R52): positions first, then the structural fields in the record's order, then the
checks that join several fields (log 16). The record stands at offset 1 of the payload. -/
def profileChecks (s : State) (r : List Byte) : List FieldCheck :=
  let positions := at8 r 0
  let separate := at8 r 5 == 1
  let repeated := (List.range 4).filter fun i =>
    at8 r (1 + i) != 0 && (List.range 4).any fun j => j != i && at8 r (1 + j) == at8 r (1 + i)
  let unused := (List.range 4).filter fun l => !lineUsed separate positions l
  let badLines := (unused.filter fun l => at8 r (18 + l) != 0).map (19 + ·) ++
    (unused.filter fun l => at8 r (24 + l) != 0).map (25 + ·)
  [field (1 ≤ positions && positions ≤ 4) 1] ++
  ((List.range 4).map fun i => field (at8 r (1 + i) ≤ 4) (2 + i)) ++
  [field (at8 r 5 ≤ 1) 6, field (1 ≤ at8 r 6 && at8 r 6 ≤ 9) 7, field (1 ≤ at8 r 7 && at8 r 7 ≤ 6) 8,
   field (1 ≤ at8 r 8 && at8 r 8 ≤ 60) 9, field (1 ≤ at8 r 9 && at8 r 9 ≤ 4) 10,
   field (1 ≤ at8 r 10 && at8 r 10 ≤ 9) 11, field (at8 r 11 ≤ 1) 12] ++
  ((List.range 4).map fun l => field (at8 r (18 + l) ≤ 2) (19 + l)) ++
  ((List.range 4).map fun l => field (at8 r (24 + l) ≤ 2) (25 + l)) ++
  [field (at8 r 32 ≤ 3) 33, field (1 ≤ at8 r 36 && at8 r 36 ≤ 20) 37, field (at8 r 37 ≤ 1) 38, field (at8 r 38 ≤ 1) 39,
   field (at8 r 39 ≤ 1) 40,
   jointly repeated.isEmpty (repeated.map (2 + ·))] ++
  ((List.range 4).map fun i => field (decide (i < positions) || at8 r (1 + i) == 0) (2 + i)) ++
  [jointly badLines.isEmpty badLines,
   jointly (at8 r 9 ≤ at8 r 10 && at8 r 9 - 1 + at8 r 7 ≤ at8 r 10) [8, 10, 11],
   field (at8 r 36 ≤ s.settings.powerBudget) 37]

/-- The profile a record spells, its timing fields clamped (03 R52). -/
def profileRecord (r : List Byte) : Profile where
  positions := at8 r 0
  stationMap := #v[quarterOf (at8 r 1), quarterOf (at8 r 2), quarterOf (at8 r 3), quarterOf (at8 r 4)]
  creditMode := if at8 r 5 = 0 then .common else .separate
  c := at8 r 6
  k := at8 r 7
  price := at8 r 8
  perStart := at8 r 9
  creditMax := at8 r 10
  freePlay := at8 r 11 == 1
  pulseWidth := clamp 20 200 (at16 r 12)
  pulseGap := clamp 20 500 (at16 r 14)
  pressWidth := clamp 50 500 (at16 r 16)
  confirm := #v[outputOf (at8 r 18), outputOf (at8 r 19), outputOf (at8 r 20), outputOf (at8 r 21)]
  confirmTimeout := clamp 100 5000 (at16 r 22)
  lockout := #v[outputOf (at8 r 24), outputOf (at8 r 25), outputOf (at8 r 26), outputOf (at8 r 27)]
  lockoutWait := clamp 100 10000 (at16 r 28)
  playGuard := clamp 0 600 (at16 r 30)
  rotation := match at8 r 32 with
    | 0 => .r0 | 1 => .r90 | 2 => .r180 | _ => .r270
  powerSettle := clamp 50 2000 (at16 r 33)
  bootTimeout := clamp 1 60 (at8 r 35)
  load := at8 r 36
  keep := at8 r 37 == 1
  leave := if at8 r 38 = 0 then .park else .stop
  testPass := at8 r 39 == 1
  trim := clamp 0 15 (at8 r 40)

/-- The byte of a station map entry: 0 NONE, 1 to 4. -/
def stationByte : Option Station → Byte
  | some t => byte (t.val + 1)
  | none => 0

/-- The byte of a confirm source or lockout sense: 0 NONE, 1, 2. -/
def outputByte : Option OutputNo → Byte
  | some o => byte (o.val + 1)
  | none => 0

/-- The 41 bytes of the profile record. -/
def profileBytes (pr : Profile) : List Byte :=
  [byte pr.positions] ++ pr.stationMap.toList.map stationByte ++
  [byte pr.creditMode.code, byte pr.c, byte pr.k, byte pr.price, byte pr.perStart, byte pr.creditMax, yesNo pr.freePlay] ++
  be16 pr.pulseWidth ++ be16 pr.pulseGap ++ be16 pr.pressWidth ++ pr.confirm.toList.map outputByte ++
  be16 pr.confirmTimeout ++ pr.lockout.toList.map outputByte ++ be16 pr.lockoutWait ++ be16 pr.playGuard ++
  [byte pr.rotation.code] ++ be16 pr.powerSettle ++
  [byte pr.bootTimeout, byte pr.load, yesNo pr.keep, byte pr.leave.code, yesNo pr.testPass, byte pr.trim]

/-! ### Route entries (10 section 10.5; 07 R114, R116) -/

/-- The source a route byte names. -/
def routeSourceOf (n : Nat) : Option RouteSource :=
  if n = 0x80 then some .alwaysReleased else if n = 0x81 then some .alwaysHeld else (controlNo n).map .control

/-- The entries of a route list as pairs of bytes. -/
def routePairs : List Byte → List (Nat × Nat)
  | l :: x :: rest => (l.toNat, x.toNat) :: routePairs rest
  | _ => []

/-- The route list its pairs spell, unless one names a line or a source that does not exist. -/
def routesOf (pairs : List (Nat × Nat)) : List Route :=
  pairs.filterMap fun e =>
    match controlNo e.1, routeSourceOf e.2 with
    | some l, some x => some ⟨l, x⟩
    | _, _ => none

/-- The offset of entry `i`'s line byte in the payload. -/
def lineOffset (i : Nat) : Nat := 2 + 2 * i

/-- The checks of WRITE ROUTES 2 (07 R116), in the order of its list. -/
def routeChecks (count : Nat) (pairs : List (Nat × Nat)) : List FieldCheck :=
  let idx := pairs.zipIdx
  let doubled := idx.filter fun e => idx.any fun e' => e'.2 != e.2 && e'.1.1 == e.1.1
  [field (count ≤ 47) 1] ++
  (idx.flatMap fun e =>
    [field (controlNo e.1.1).isSome (lineOffset e.2), field (routeSourceOf e.1.2).isSome (lineOffset e.2 + 1)]) ++
  (idx.map fun e => field (match controlNo e.1.1 with
    | some l => !isStart l
    | none => true) (lineOffset e.2)) ++
  [jointly doubled.isEmpty (doubled.map fun e => lineOffset e.2)]

/-- Whether a profile can hold a route of a line (03 R53, 07 R116 check 3). -/
def routeFits (pr : Profile) (line : Control) : Bool :=
  !abovePositions pr line && (line != testControl || pr.testPass)

/-- The check of WRITE ROUTES 3 (07 R116) against a profile. -/
def routeFitChecks (pr : Profile) (pairs : List (Nat × Nat)) : List FieldCheck :=
  pairs.zipIdx.map fun e => field (match controlNo e.1.1 with
    | some l => routeFits pr l
    | none => true) (lineOffset e.2)

def routeBytes (r : Route) : List Byte := [byte r.line.val, byte r.source.code]

/-! ### Lot and event records (10 section 10.5) -/

def lotBytes (l : Lot) : List Byte := [byte l.source.code, byte l.credits] ++ be16 l.value

def eventBytes (e : EventRecord) : List Byte :=
  [byte e.kind.code, e.subject] ++ be16 e.detail1.toNat ++ be16 e.detail2.toNat ++ be32 e.stamp.toNat

end Sys2Proof.Machine
end

