-- ==== Sys2Proof/Machine/CutoverOps.lean ====
section
/-! DEFINITION. What the cutover controller does within an event (chapter 8): ramps, the start of a cutover, the phases, a
selection, the losses, and the part of the sweep that is the controller's. -/

namespace Sys2Proof.Machine

/-! ### Sound ramps (08 R136) -/

/-- The distance between two sound levels. -/
def levelDistance (a b : Nat) : Nat := (a - b) + (b - a)

/-- A ramp from the present level towards a target begins (08 R136): it ends at once with no step to make, and sets the
level at once when its step interval is 0. -/
def startRamp (target : Nat) (s : State) : State :=
  let d := levelDistance s.cutover.level target
  let interval := s.settings.soundRamp / d
  if d = 0 then modCutover (fun c => { c with ramp := none }) s
  else if interval = 0 then modCutover (fun c => { c with level := target, ramp := none }) s
  else modCutover (fun c => { c with ramp := some ⟨target, interval, interval⟩ }) s

/-- One step of a ramp (08 R136). -/
def rampStep (r : Ramp) (c : Cutover) : Cutover :=
  let level := if c.level < r.target then c.level + 1 else c.level - 1
  { c with level := level, ramp := if level = r.target then none else some { r with timer := r.interval } }

/-! ### Starting a cutover (08 R129) -/

/-- The band a target needs (08 R129): the menu band, or the frozen band of the port's monitor. -/
def targetBand (s : State) : Crosspoint → Option Band
  | .menu => some s.settings.menuBand
  | .port p => (s.port p).monitor.frozen

/-- Whether a selection can become a cutover (08 R129): MENU, or a port that is PARKED. -/
def targetReady (s : State) : Crosspoint → Bool
  | .menu => true
  | .port p => (s.port p).state == .parked

/-- Whether a target's band is strapped (08 R129 step 2). -/
def bandStrapped (s : State) (x : Crosspoint) : Bool :=
  match targetBand s x with
  | some b => s.straps.bands.has b
  | none => false

/-- The start of a cutover (08 R129): the pending selection is cleared, the band checked, the record made in HOLD. With the
record made, the START lines held by guard pass-through are released (`startLine`). -/
def startCutover (target : Crosspoint) (s : State) : State :=
  let s1 := modCutover (fun c => { c with pendingSel := none }) s
  if bandStrapped s1 target then
    modCutover (fun c => { c with record := some ⟨.hold, c.live, target⟩ }) s1
  else post .cutoverFailed (sourceNumber target) FailReason.band.code (bandCode (targetBand s1 target)) s1

/-! ### The phases (08 R130 to R135) -/

/-- The record's phase. -/
def setPhase (ph : CutoverPhase) (c : Cutover) : Cutover :=
  { c with record := c.record.map fun r => { r with phase := ph } }

/-- Every guard ends (08 R131 step 2). -/
def endGuards (s : State) : State := { s with gates := mapSlots (fun g => { g with guardTimer := none }) s.gates }

/-- MUTE begins (08 R131). -/
def enterMute (r : Record) (s : State) : State :=
  let s1 := modCutover (fun c => { setPhase .mute c with blank := true }) s
  let s2 := match r.outgoing with
    | .menu => s1
    | .port _ => endGuards (unroute s1)
  startRamp Config.mute s2

/-- BAND begins (08 R132): when the bands differ the band lines move and the settle timer is started, unless it is 0.
DESIGN CHOICE (log 39): a cutover to MENU compares the menu band in force as BAND begins, so one in flight uses a menu band
that a WRITE CABINET set after the cutover had started. -/
def enterBand (r : Record) (s : State) : State :=
  let s1 := modCutover (setPhase .band) s
  match targetBand s r.target with
  | none => s1
  | some b =>
    if b = s.cutover.band then s1
    else
      modCutover (fun c =>
        { c with
          band := b
          settleTimer := if s.settings.monitorSettle = 0 then none else some s.settings.monitorSettle }) s1

/-- ALIGN begins (08 R133). -/
def enterAlign (s : State) : State := modCutover (setPhase .align) s

/-- The outgoing port of a cutover, still LIVE, leaves LIVE by its leave action (08 R134 step 2), and with leave action STOP
a pending selection of it hands board life a power-up request (08 R128). -/
def leaveLive (p : PortNo) (s : State) : State :=
  match (profileOf s p).leave with
  | .park =>
    modPort p (fun pt =>
      { pt with state := .parked, meterIn := mapSlots (fun m => { m with timer := none }) pt.meterIn }) s
  | .stop =>
    let s1 := enterStopping p s
    if isPendingSel s1 p then requestPower p s1 else s1

/-- The target port becomes LIVE, moves to the head of the recency list, and becomes the routed port with the
release-required marks of every control held at that moment (08 R134 step 3, 07 R121). -/
def showPort (p : PortNo) (s : State) : State :=
  let s1 := modPort p (fun pt => { pt with state := .live }) s
  let s2 := { s1 with recency := p :: s1.recency.filter (· != p) }
  modRouter (fun r => { r with routed := some p, marks := r.level }) s2

/-- SHOW begins (08 R134): crosspoint, outgoing, target, blank. -/
def enterShow (r : Record) (s : State) : State :=
  let s1 := modCutover (fun c => { setPhase .shown c with live := r.target }) s
  let s2 := match r.outgoing with
    | .menu => s1
    | .port p => if (s1.port p).state = .live then leaveLive p s1 else s1
  match r.target with
  | .port p => showPort p s2
  | .menu => startRamp s2.settings.menuTrim (modCutover (fun c => { c with blank := false }) (unroute s2))

/-- The cutover is complete (08 R135). -/
def finishCutover (r : Record) (s : State) : State :=
  modCutover (fun c => { c with record := none })
    (post .cutoverDone (sourceNumber r.target) (sourceNumber r.outgoing) 0 s)

/-- The next thing the controller does at once, if any: a pending selection that is ready starts (08 R129), and a phase
whose condition to end holds ends (08 R129 to R135). -/
def nextPhase (s : State) : Option State :=
  match s.cutover.record with
  | none =>
    match s.cutover.pendingSel with
    | none => none
    | some x => if targetReady s x then some (startCutover x s) else none
  | some r =>
    match r.phase with
    | .hold => if gatesQuiet s then some (enterMute r s) else none
    | .mute => if s.cutover.level = Config.mute then some (enterBand r s) else none
    | .band => if s.cutover.settleTimer = none then some (enterAlign s) else none
    | .align => if r.target = .menu then some (enterShow r s) else none
    | .shown => if !s.cutover.blank && s.cutover.ramp = none then some (finishCutover r s) else none

/-- The phases that end within one event, one after another: at most `n`. -/
def runPhases : Nat → State → State
  | 0, s => s
  | n + 1, s =>
    match nextPhase s with
    | none => s
    | some s' => runPhases n s'

/-- The controller goes as far as it can in this event. A cutover takes at most six of these turns from its start to its
end, and at most two cutovers can follow each other in one event, since each start clears the one pending selection. -/
def advanceCutover (s : State) : State := runPhases 16 s

/-! ### Selections (08 R127, R128) -/

/-- The pending selection is cleared with CUTOVER FAILED (SUPERSEDED), if there is one (08 R128). -/
def supersede (s : State) : State :=
  match s.cutover.pendingSel with
  | none => s
  | some x => postFailed x .superseded (modCutover (fun c => { c with pendingSel := none }) s)

/-- Whether an accepted selection is already shown: the first row of 08 R127's table. -/
def alreadyShown (target : Crosspoint) (s : State) : Bool := s.cutover.record.isNone && s.cutover.live == target

/-- The power-up request a selection hands board life for a port that is OFF or STOPPING (08 R127, 04 R59). -/
def requestFor (target : Crosspoint) (s : State) : State :=
  match target with
  | .menu => s
  | .port p => requestPower p s

/-- A target becomes the pending selection, replacing any other (08 R128). -/
def makePending (target : Crosspoint) (s : State) : State :=
  requestFor target (modCutover (fun c => { c with pendingSel := some target }) (supersede s))

/-- An accepted selection acts as the first matching row of 08 R127's table, and the cutover it makes ready starts. -/
def makeSelection (target : Crosspoint) (s : State) : State :=
  if alreadyShown target s then s
  else
    match s.cutover.record with
    | some r =>
      if r.target = target then supersede s
      else if s.cutover.pendingSel = some target then s
      else makePending target s
    | none => if s.cutover.pendingSel = some target then s else advanceCutover (makePending target s)

/-! ### Losses (08 R137, R138, R139) -/

/-- The target of the cutover in flight is lost before SHOW (08 R137): the record is replaced by one to MENU with the same
outgoing source, in HOLD if it was in HOLD and in BAND otherwise. -/
def targetLost (r : Record) (s : State) : State :=
  let s1 := postFailed r.target .targetLost s
  let r' : Record := { r with target := .menu }
  let s2 := modCutover (fun c => { c with record := some r' }) s1
  match r.phase with
  | .hold => advanceCutover s2
  | .mute | .band | .align | .shown => advanceCutover (enterBand r' (modCutover (fun c => { c with ramp := none }) s2))

/-- Port `p`, which has left PARKED, may be the target of the cutover in flight (04 R60, R72). -/
def tellTargetLost (p : PortNo) (s : State) : State :=
  match s.cutover.record with
  | none => s
  | some r => if r.target = .port p then targetLost r s else s

/-- The live board is lost (08 R138, R139): blank and mute; in SHOW with this port as target, CUTOVER FAILED (TARGET LOST)
and the record cleared; MENU selected; and the cutover goes on as far as it can. -/
def liveLost (p : PortNo) (s : State) : State :=
  let s1 := modCutover (fun c => { c with blank := true, ramp := none, level := Config.mute }) s
  let s2 := match s1.cutover.record with
    | some r =>
      if r.phase = .shown ∧ r.target = .port p then
        modCutover (fun c => { c with record := none }) (postFailed (.port p) .targetLost s1)
      else s1
    | none => s1
  advanceCutover (makeSelection .menu s2)

/-- A loss reported by the monitor of port `p` (04 R72, R73). -/
def boardLost (p : PortNo) (s : State) : State :=
  let before := (s.port p).state
  let s1 := modAudits p (fun u => { u with losses := satAdd u.losses 1 }) (setCheck p (enterStopping p s))
  let s2 := post .boardLost (p.val + 1) before.code 0 s1
  if before = .live then liveLost p s2 else tellTargetLost p (failPending p .targetLost s2)

/-- A lock reported by the monitor of port `p` (04 R67): the port parks, BOARD READY is posted, and a pending selection of
it may start. -/
def boardReady (p : PortNo) (s : State) : State :=
  let m := (s.port p).monitor
  let s1 := modPort p (fun pt => { pt with state := .parked, bootTimer := none }) s
  let s2 := post .boardReady (p.val + 1) (bandCode m.frozen) ((m.reported.map Figures.lp).getD 0)
    { s1 with recency := s1.recency ++ [p] }
  if isPendingSel s2 p then advanceCutover s2 else s2

/-- A vertical sync offered by port `p` (05 R87; 08 R133, R135): the target's ends ALIGN, and its first after SHOW began
releases the blank and starts the ramp. -/
def offerVsync (p : PortNo) (s : State) : State :=
  match s.cutover.record with
  | none => s
  | some r =>
    if r.target ≠ .port p then s
    else
      match r.phase with
      | .align => advanceCutover (enterShow r s)
      | .shown =>
        if s.cutover.blank then
          advanceCutover (startRamp (profileOf s p).trim (modCutover (fun c => { c with blank := false }) s))
        else s
      | .hold | .mute | .band => s

/-- The gates report that all four are IDLE with no service pending, which ends HOLD (06 R107, 08 R130; log 37). -/
def reportIdle (s : State) : State :=
  match s.cutover.record with
  | some r => if r.phase = .hold then advanceCutover s else s
  | none => s

/-! ### The sweep (03 R43) -/

/-- A port in the sweep (03 R43 step 4): a QUEUED port becomes OFF, a running or POWERING port enters STOPPING, and every
restart-requested mark is cleared. -/
def sweepPort (p : PortNo) (s : State) : State :=
  let s1 := match (s.port p).state with
    | .queued => modPort p (fun pt => { pt with state := .off }) s
    | .powering | .booting | .parked | .live => enterStopping p s
    | .absent | .off | .stopping => s
  modPort p (fun pt => { pt with restart := false }) s1

/-- The picture and sound in the sweep (03 R43 step 3, 08 R126). -/
def sweepCutover (s : State) : State := unroute { s with cutover := menuCutover s.settings }

/-- Entering SETUP (03 R43): mode and coils, gates, picture and sound, ports. -/
def sweep (s : State) : State :=
  let s1 := allCoils { s with mode := .setup }
  let s2 := sweepCutover (abortGates .reset s1)
  let s3 := (List.finRange 8).foldl (fun s p => sweepPort p s) s2
  { s3 with powerQueue := [], recency := [] }

end Sys2Proof.Machine
end

