-- ==== Sys2Proof/Machine/Life.lean ====
section
/-! DEFINITION. The meanings of board life's timers (chapter 4) and of the shown second (09 R143). Each expiry is taken when
its timer has run out in the state it belongs to, and otherwise does not come (log 2). -/

namespace Sys2Proof.Machine

/-- A monitor as its port enters BOOTING (05 R78): its last-edge timer runs, and a low input is not measured. -/
def startMonitor (m : Monitor) : Monitor :=
  { stoppedMonitor m.low with
    state := .searching
    unitCount := m.unitCount
    waitRelease := m.low
    lastEdge := some Config.lastEdge }

def settleDue (pt : Port) : Bool := pt.state == .powering && expired pt.settleTimer
def bootDue (pt : Port) : Bool := pt.state == .booting && expired pt.bootTimer
def dischargeDue (pt : Port) : Bool := pt.state == .stopping && expired pt.dischargeTimer

/-- The settle timer expires (04 R66): reset released, monitor restarted, boot timer started, BOOTS; then the queue. -/
def enterBooting (p : PortNo) (s : State) : State :=
  let s1 := modPort p (fun pt =>
    { pt with
      state := .booting
      settleTimer := none
      monitor := startMonitor pt.monitor
      bootTimer := some (1000 * (profileOf s p).bootTimeout) }) s
  serveQueue (modAudits p (fun u => { u with boots := satAdd u.boots 1 }) s1)

/-- The boot has failed (04 R68). -/
def bootFailed (p : PortNo) (s : State) : State :=
  failPending p .boot
    (post .bootFailed (p.val + 1) (profileOf s p).bootTimeout 0 (setCheck p (enterStopping p s)))

/-- The discharge ends (04 R71): OFF, and QUEUED again when restart-requested is set. -/
def endDischarge (p : PortNo) (s : State) : State :=
  let s1 := modPort p (fun pt => { pt with state := .off, dischargeTimer := none, restart := false }) s
  if (s.port p).restart then enqueuePort p s1 else s1

/-- SETTLE_TIMER_EXPIRY (04 R66). -/
def execSettleTimerExpiry (p : PortNo) (s : State) : Host.Outcome State Fault Refusal :=
  .next (if settleDue (s.port p) then enterBooting p s else s)

/-- BOOT_TIMER_EXPIRY (04 R68). -/
def execBootTimerExpiry (p : PortNo) (s : State) : Host.Outcome State Fault Refusal :=
  .next (if bootDue (s.port p) then bootFailed p s else s)

/-- DISCHARGE_TIMER_EXPIRY (04 R71). -/
def execDischargeTimerExpiry (p : PortNo) (s : State) : Host.Outcome State Fault Refusal :=
  .next (if dischargeDue (s.port p) then endDischarge p s else s)

/-- SHOWN_SECONDS_TICK (09 R143): the remainder has reached a whole second (log 27). -/
def execShownSecondsTick (p : PortNo) (s : State) : Host.Outcome State Fault Refusal :=
  .next (if (s.port p).audits.secondDue then
    modAudits p (fun u => { u with shownSeconds := satAdd u.shownSeconds 1, remainder := 0, secondDue := false }) s else s)

end Sys2Proof.Machine
end

