-- ==== Sys2Proof/Machine/Link.lean ====
section
/-! DEFINITION. The selector port (chapter 10): how a transaction is classified, how a command is taken and answered, the
placement of its response, and the fetch; and the meanings of the transport's own rows. -/

namespace Sys2Proof.Machine

/-! ### Taking a command (10 R150 to R153) -/

/-- What the taking of a command leaves to a later event (10 R152): a response to place, or the warm reset of RESTART. -/
inductive Answer where
  | reply (r : Reply)
  | restart
  deriving DecidableEq, Repr

/-- The response frame composed for a reply: its OVERRUN bit is given at placement (10 R152, R156). -/
def composed (code : Byte) (r : Reply) : Response := ⟨r.cls, false, code, r.payload⟩

/-- What an answer leaves in preparation. -/
def preparingOf (code : Byte) : Answer → Preparing
  | .reply r => .response (composed code r)
  | .restart => .restart

/-- What a COMMAND, DROPPED or IGNORED transaction shifts out after its first byte: 00H for each byte (10 R150). -/
def zeros (n : Nat) : List Byte := List.replicate n 0

/-- The selector port as a command is taken (10 R152 steps 1 and 2): the frame collected, the slot emptied, READY low, the
transaction ended. -/
def takenLink (frame : List Byte) (l : Link) : Link :=
  { l with
    receive := frame.take Config.frameBytes
    slot := none
    ready := false
    transaction := .none
    dataOut := zeros (frame.length - 1) }

/-- The answer left in preparation, to be placed, or carried out, within 2 ms (10 R152). -/
def prepare (p : Preparing) (l : Link) : Link := { l with preparing := p, placeTimer := some Config.placement }

/-- A command transaction that was dropped has ended, `n` bytes after its first one (10 R153). -/
def droppedLink (n : Nat) (l : Link) : Link := { l with overrun := true, transaction := .none, dataOut := zeros n }

/-- An ignored transaction has ended, `n` bytes after its first one: no state of the part changes (10 R150). -/
def ignoredLink (n : Nat) (l : Link) : Link := { l with transaction := .none, dataOut := zeros n }

/-- The kind of a transaction, by its first byte and READY at its falling edge (10 R150). One with no whole byte is
IGNORED. -/
def kindOf (ready : Bool) (bytes : List Byte) : Transaction :=
  match bytes with
  | [] => .ignored
  | b :: _ =>
    if b.toNat = 0x80 then .fetch
    else if b.toNat = 0 ∨ 0x80 < b.toNat then .ignored
    else if ready then .command
    else .dropped

/-- A command is taken, judged and answered in one event (10 R152). -/
def takenWith (frame : List Byte) (code : Byte) (judged : State → State × Answer) (s : State) : State :=
  let r := judged (modLink (takenLink frame) s)
  modLink (prepare (preparingOf code r.2)) r.1

/-- The end of a command's transaction: taken when it began with READY high (COMMAND), lost when it is DROPPED, ignored when
a warm reset made it IGNORED (10 R150, R153, R156). A transaction whose falling edge was not given apart is taken as a
whole, its kind by READY as it stands (log 7). Within a fetch no command ends. -/
def endCommand (frame : List Byte) (code : Byte) (judged : State → State × Answer) (s : State) : State :=
  match s.link.transaction with
  | .command => takenWith frame code judged s
  | .none =>
    if s.link.ready then takenWith frame code judged s else modLink (droppedLink (frame.length - 1)) s
  | .dropped => modLink (droppedLink (frame.length - 1)) s
  | .ignored => modLink (ignoredLink (frame.length - 1)) s
  | .fetch => s

/-- A command frame of the table's rows: the length tests of its command (10 R151 tests 1 and 5), and then its own checks
and effect. -/
def takeCommand (code : Code) (payload : List Byte) (body : State → State × Answer) (s : State) : State :=
  endCommand (commandFrame code payload) code.byte
    (fun s => if code.takes payload then body s else (s, .reply badLengthReply)) s

/-! ### Placement (10 R152, R153) -/

/-- A response placed (10 R152): its header takes the overrun mark, which is cleared, and READY rises. -/
def placed (r : Response) (l : Link) : Link :=
  { l with
    slot := some { r with overrun := l.overrun }
    overrun := false
    ready := true
    preparing := .nothing
    placeTimer := none }

/-! ### The fetch (10 R154) -/

/-- The fetch copy made when the 80H byte has arrived. -/
def fetchCopy (l : Link) : FetchCopy :=
  match l.slot with
  | some r => ⟨r, true, 0⟩
  | none => ⟨emptyResponse, false, 0⟩

/-- A transaction that can still turn out to be a fetch: its first byte was not judged yet. -/
def beginFetch (l : Link) : Link :=
  match l.transaction with
  | .none | .command | .dropped => { l with transaction := .fetch, fetch := some (fetchCopy l), receive := [], dataOut := [] }
  | .fetch | .ignored => l

/-- The `n` bytes a fetch clocks out: those of its copy, then 00H (10 R154); when a warm reset took its copy away, those
`sent` before it, then 00H (10 R156). -/
def clockedOut (copy : Option FetchCopy) (sent : List Byte) (n : Nat) : List Byte :=
  match copy with
  | some c => (c.response.bytes ++ zeros n).take n
  | none => (sent ++ zeros n).take n

/-- Whether a fetch that clocked `n` bytes empties the slot: its copy came from the slot and its check byte was sent. -/
def emptiesSlot (copy : Option FetchCopy) (n : Nat) : Bool :=
  match copy with
  | some c => c.fromSlot && decide (c.response.bytes.length ≤ n)
  | none => false

/-- A fetch ends after `n` bytes were clocked out (10 R154; log 10). -/
def endFetch (n : Nat) (l : Link) : Link :=
  match l.transaction with
  | .fetch =>
    { l with
      dataOut := clockedOut l.fetch l.dataOut n
      slot := if emptiesSlot l.fetch n then none else l.slot
      fetch := none
      transaction := .none }
  | .ignored => ignoredLink n l
  | .none | .command | .dropped => l

/-! ### The meanings of the transport's rows -/

/-- CHIP_SELECT_FALLING_EDGE (10 R150): READY is tested, and a command transaction would be COMMAND or DROPPED by it
(logs 7 and 8). -/
def execChipSelectFallingEdge (s : State) : Host.Outcome State Fault Refusal :=
  .next (modLink (fun l => { l with transaction := if l.ready then .command else .dropped, receive := [] }) s)

/-- FETCH_START (10 R154). -/
def execFetchStart (s : State) : Host.Outcome State Fault Refusal := .next (modLink beginFetch s)

/-- FETCH_END (10 R154). -/
def execFetchEnd (clocked : Nat) (s : State) : Host.Outcome State Fault Refusal := .next (modLink (endFetch clocked) s)

/-- The end of a transaction whose row does not say how many bytes were clocked: as many as the next free choice says
(log 10). -/
def endUncounted (f : Nat → Link → Link) (s : State) : State :=
  { modLink (f (Config.bytesClocked s.freeCount)) s with freeCount := s.freeCount + 1 }

/-- DROPPED_TRANSACTION (10 R153). One whose falling edge was not given apart is judged whole: dropped if READY is low
(log 7). -/
def execDroppedTransaction (s : State) : Host.Outcome State Fault Refusal :=
  .next (match s.link.transaction with
    | .dropped => endUncounted droppedLink s
    | .none => if s.link.ready then s else endUncounted droppedLink s
    | .ignored => endUncounted ignoredLink s
    | .command | .fetch => s)

/-- RESPONSE_PLACEMENT (10 R152). -/
def execResponsePlacement (s : State) : Host.Outcome State Fault Refusal :=
  .next (match s.link.preparing with
    | .response r => modLink (placed r) s
    | .nothing | .restart => s)

end Sys2Proof.Machine
end

