-- ==== Sys2Proof/Machine/Resets.lean ====
section
/-! DEFINITION. Power-on reset, the warm reset with its two causes, and the mode commands (03 R42 to R45; 10 R157; 11 R167). -/

namespace Sys2Proof.Machine

/-! ### Power-on reset (03 R41, R42) -/

/-- A chute at power-on with its input at a given level (01 R1). -/
def powerOnChute (held : Bool) : Chute :=
  if held then
    { quietChute with held := true, state := .timing, leadingEdge := some 0, maxWidthTimer := some quietChute.maxWidth }
  else quietChute

/-- A port at power-on, the levels of its inputs kept as they stand (04 R57; log 6). -/
def restoredPort (installed : Bool) (pt : Port) : Port :=
  { powerOnPort installed with
    meterIn := mapSlots (fun m => ⟨m.active, none⟩) pt.meterIn
    lockoutIn := pt.lockoutIn
    monitor := stoppedMonitor pt.monitor.low }

/-- The whole part at its power-on values, with the straps read, the levels of the inputs as they stand, and the model's own
queue and count of free choices kept (03 R42). -/
def powerOn (ports bands : BitVec 3) (s : State) : State :=
  let straps := takenStraps ports bands
  let settings := defaultSettings (lowestBand straps.bands)
  { pending := s.pending
    timeStamp := 0
    mode := .setup
    straps := straps
    settings := settings
    chutes := mapSlots (fun c => powerOnChute c.held) s.chutes
    meters := Vector.replicate 2 idleMeter
    accounts := Vector.replicate 4 0
    totalIn := 0
    totalOut := 0
    ports := ⟨((List.finRange 8).map fun p => restoredPort (decide (p.val < straps.installed)) (s.port p)).toArray, by simp⟩
    powerQueue := []
    recency := []
    gates := Vector.replicate 4 idleGate
    servicePending := false
    router := powerOnRouter s.router.raw
    resetPin := ⟨s.resetPin.raw, s.resetPin.raw, none⟩
    cutover := menuCutover settings
    cabinet := zeroCabinet
    link := powerOnLink
    events := [powerOnRecord straps]
    overflow := false
    freeCount := s.freeCount }

/-! ### The warm reset (03 R45, 10 R156, 11 R167) -/

/-- The causes of a warm reset (11 R163). -/
inductive ResetCause where
  | pin | restart
  deriving DecidableEq, Repr

def ResetCause.code : ResetCause → Nat
  | .pin => 1 | .restart => 2

/-- The selector port at a warm reset (10 R156): its power-on values, and a transaction in progress ignored to its end
(logs 12 and 13). A fetch keeps the bytes it has `sent`, and its rest carries 00H (log 10). -/
def resetLink (sent : Nat) (l : Link) : Link :=
  { powerOnLink with
    dataOut := match l.fetch with
      | some _ => clockedOut l.fetch l.dataOut sent
      | none => l.dataOut
    transaction := match l.transaction with
      | .none => .none
      | .command | .dropped | .ignored => .ignored
      | .fetch => .fetch }

/-- CHECK set on every installed port, and every miss streak 0 (03 R45 step 1). -/
def doubtPorts (s : State) : State :=
  { s with
    ports := mapSlots (fun pt => { pt with check := if pt.state = .absent then pt.check else true, missStreak := 0 }) s.ports }

/-- A warm reset (03 R45): the sweep, CHECK and streaks, the event queue, the selector port. In SETUP the sweep finds
nothing but ports in STOPPING, and sets the picture and sound (08 R126; log 11). -/
def warmReset (cause : ResetCause) (s : State) : State :=
  let s1 := doubtPorts (sweep s)
  let s2 := post .restarted 0 cause.code s.mode.code { s1 with events := [], overflow := false }
  match s.link.fetch with
  | some _ => endUncounted resetLink s2
  | none => modLink (resetLink 0) s2

/-! ### Mode commands (03 R40, R44, R45) -/

/-- A command done, with its payload. -/
def done (payload : List Byte) (s : State) : State × Answer := (s, .reply (doneReply payload))

/-- A command refused: it changes nothing. -/
def refused (r : RefusalReason) (s : State) : State × Answer := (s, .reply (refusedReply r))

/-- A command whose field at an offset is out of range: it changes nothing. -/
def invalid (offset : Nat) (s : State) : State × Answer := (s, .reply (outOfRange offset))

/-- START RUN (03 R44). -/
def startRunBody (s : State) : State × Answer :=
  match s.mode with
  | .setup => done [] (allCoils { s with mode := .run })
  | .run => refused .notSetup s

/-- ENTER SETUP (03 R43, R44). -/
def enterSetupBody (s : State) : State × Answer :=
  match s.mode with
  | .setup => refused .notRun s
  | .run => done [] (sweep s)

/-- RESTART (03 R45): taken in both modes; its warm reset is made at a later event (10 R152). -/
def restartBody (s : State) : State × Answer := (s, .restart)

/-! ### The meanings -/

/-- The RESET pin's filter has run its 5 ms on a change to a level (03 R45). -/
def pinDue (level : Bool) (p : ResetPin) : Bool := expired p.timer && p.raw == level && p.filtered != level

/-- POWER_ON_RESET (03 R42). -/
def execPowerOnReset (ports bands : BitVec 3) (s : State) : Host.Outcome State Fault Refusal := .next (powerOn ports bands s)

/-- RESET_PIN_ASSERTED (03 R45). -/
def execResetPinAsserted (s : State) : Host.Outcome State Fault Refusal :=
  .next (if pinDue true s.resetPin then
    warmReset .pin { s with resetPin := { s.resetPin with filtered := true, timer := none } } else s)

/-- RESET_PIN_RELEASED (03 R45). -/
def execResetPinReleased (s : State) : Host.Outcome State Fault Refusal :=
  .next (if pinDue false s.resetPin then
    { s with resetPin := { s.resetPin with filtered := false, timer := none } } else s)

/-- WARM_RESET (03 R45, 10 R152): the warm reset of a RESTART that was taken. -/
def execWarmReset (s : State) : Host.Outcome State Fault Refusal :=
  .next (if s.link.preparing = .restart then warmReset .restart s else s)

/-- START_RUN. -/
def execStartRun (s : State) : Host.Outcome State Fault Refusal := .next (takeCommand .startRun [] startRunBody s)

/-- ENTER_SETUP. -/
def execEnterSetup (s : State) : Host.Outcome State Fault Refusal := .next (takeCommand .enterSetup [] enterSetupBody s)

/-- RESTART. -/
def execRestart (s : State) : Host.Outcome State Fault Refusal := .next (takeCommand .restart [] restartBody s)

end Sys2Proof.Machine
end

