-- ==== Sys2Proof/Machine/Router.lean ====
section
/-! DEFINITION. The meanings of the control router's events (chapter 7) and of the two timers of the cutover controller
(chapter 8): raw edges, debounced changes, the exit chord, the monitor settle and the ramp steps. Each expiry is taken when
its timer has run out in the state it belongs to, and otherwise does not come (log 2). -/

namespace Sys2Proof.Machine

/-! ### Raw edges (07 R111, 03 R45) -/

/-- The debounce timer after a raw edge: started, or restarted, when the input then differs from its filtered level, and
stopped when it equals it. -/
def debounceTimer (held filtered : Bool) : Timer := if held = filtered then none else some Config.debounce

/-- A raw edge of a cabinet control (07 R111). -/
def rawControl (c : Control) (held : Bool) (r : Router) : Router :=
  { r with
    raw := setSlot r.raw c held
    timers := setSlot r.timers c (debounceTimer held (slot r.level c)) }

/-- A raw edge of the RESET pin (03 R45). -/
def rawPin (held : Bool) (p : ResetPin) : ResetPin := { p with raw := held, timer := debounceTimer held p.filtered }

/-! ### The exit chord (07 R124) -/

/-- A control is one of the two chord controls. -/
def isChordControl (s : State) (c : Control) : Bool := s.settings.chordFirst == c || s.settings.chordSecond == c

/-- Both chord controls are held, by their debounced levels. -/
def chordHeld (s : State) : Bool := slot s.router.level s.settings.chordFirst && slot s.router.level s.settings.chordSecond

/-- TIMING begins if the chord is enabled and held and the detection is IDLE. -/
def beginChord (s : State) : State :=
  if s.settings.chordEnable && chordHeld s && s.router.chord == .idle then
    modRouter (fun r => { r with chord := .timing, chordTimer := some s.settings.chordHold }) s
  else s

/-- The detection is IDLE and its timer stopped. -/
def endChord (s : State) : State := modRouter (fun r => { r with chord := .idle, chordTimer := none }) s

/-- The chord detection re-tested at a debounced change of one of its controls (07 R112 step 4, R124). -/
def retestChord (c : Control) (held : Bool) (s : State) : State :=
  if isChordControl s c then (if held then beginChord s else endChord s) else s

/-! ### A debounced change (07 R112) -/

/-- Whether the press of `c` is passed through, kept for its station if `c` is a START (06 R91, R92; log 19). -/
def setPassed (c : Control) (passes : Station → Bool) (r : Router) : Router :=
  match ofStation c with
  | some (t, i) => if i = startIndex then { r with passed := setSlot r.passed t (passes t) } else r
  | none => r

/-- The debounced level takes the raw level (07 R111), and on a release the release-required mark is cleared (07 R121) and a
START passed through ends (06 R92). The board lines follow: they are functions of the levels, the marks, the routes and the
gates (`controlLine`). -/
def settleControl (c : Control) (r : Router) : Router :=
  let r1 := { r with level := setSlot r.level c (slot r.raw c), timers := setSlot r.timers c none }
  if slot r.raw c then r1 else setPassed c (fun _ => false) { r1 with marks := setSlot r1.marks c false }

/-- A gate's running guard restarted with the full play guard of the LIVE port (06 R92; log 32). A guard runs only while a port is
LIVE: its port's stop, the sweep and MUTE each end it. -/
def restartGuard (t : Station) (s : State) : State :=
  match livePort s with
  | none => s
  | some p =>
    modGate t (fun g =>
      { g with guardTimer := if g.guardTimer.isSome then some (1000 * (profileOf s p).playGuard) else none }) s

/-- The guard report of a press (07 R112 step 2). -/
def reportGuard (c : Control) (s : State) : State :=
  match ofStation c with
  | some (t, _) => restartGuard t s
  | none => s

/-- The hand-off of a press to the gates (07 R112 step 3). A release of START needs none: it has ended the pass-through
(`settleControl`), and the START line follows (`startLine`). -/
def handToGates (c : Control) (s : State) : State :=
  match ofStation c with
  | some (t, i) => if i = startIndex then startPress t s else s
  | none => if c = serviceControl then servicePress s else s

/-- Whether a press of TEST reached a board line (07 R123). -/
def testReaches (s : State) : Bool :=
  match s.router.routed with
  | none => false
  | some p =>
    ((profileOf s p).testPass || (s.port p).routes.any fun r => r.source == .control testControl) &&
      !slot s.router.marks testControl

/-- A press of TEST posts TEST PRESSED (07 R112 step 5, R123). -/
def reportTest (c : Control) (s : State) : State :=
  if c = testControl then post .testPressed 0 (sourceNumber s.cutover.live) (if testReaches s then 1 else 0) s else s

/-- A START press noted as passed through or not (06 R91; log 19). -/
def notePass (c : Control) (s : State) : State := modRouter (setPassed c (passesThrough s)) s

/-- A debounced change handed on (07 R112). -/
def takeChange (c : Control) (s : State) : State :=
  let held := slot s.router.raw c
  let s1 := modRouter (settleControl c) s
  if held = slot s.router.level c then s1
  else if held then reportTest c (retestChord c true (handToGates c (reportGuard c (notePass c s1))))
  else retestChord c false s1

/-! ### When an expiry comes -/

def debounceDue (s : State) (c : Control) : Bool := expired (slot s.router.timers c)
def chordDue (r : Router) : Bool := r.chord == .timing && expired r.chordTimer
def monitorSettleDue (c : Cutover) : Bool := expired c.settleTimer
def rampDue (c : Cutover) : Bool :=
  match c.ramp with
  | some r => r.timer == 0
  | none => false

/-- The chord fires (07 R124, R125): CHORD, and a selection of MENU when the live source is a port. -/
def fireChord (s : State) : State :=
  let live := s.cutover.live
  let s1 := modRouter (fun r => { r with chord := .fired, chordTimer := none }) s
  let s2 := post .chord 0 (sourceNumber live) (if live = .menu then 0 else 1) s1
  if live = .menu then s2 else makeSelection .menu s2

/-- A step of the ramp (08 R136), whose last one may end a phase (08 R131, R135). -/
def takeRampStep (s : State) : State :=
  match s.cutover.ramp with
  | none => s
  | some r =>
    let s1 := modCutover (rampStep r) s
    if s1.cutover.ramp = none then advanceCutover s1 else s1

/-! ### The meanings -/

/-- RAW_INPUT_EDGE (07 R111; 03 R45 for the RESET pin). -/
def execRawInputEdge (input : DebouncedInput) (held : Bool) (s : State) : Host.Outcome State Fault Refusal :=
  .next (match input with
    | .control c => modRouter (rawControl c held) s
    | .resetPin => { s with resetPin := rawPin held s.resetPin })

/-- DEBOUNCED_CHANGE (07 R112). -/
def execDebouncedChange (c : Control) (s : State) : Host.Outcome State Fault Refusal :=
  .next (if debounceDue s c then takeChange c s else s)

/-- CHORD_TIMER_EXPIRY (07 R124, R125). -/
def execChordTimerExpiry (s : State) : Host.Outcome State Fault Refusal :=
  .next (if chordDue s.router then fireChord s else s)

/-- MONITOR_SETTLE_EXPIRY (08 R132). -/
def execMonitorSettleExpiry (s : State) : Host.Outcome State Fault Refusal :=
  .next (if monitorSettleDue s.cutover then advanceCutover (modCutover (fun c => { c with settleTimer := none }) s) else s)

/-- RAMP_STEP_EXPIRY (08 R136). -/
def execRampStepExpiry (s : State) : Host.Outcome State Fault Refusal :=
  .next (if rampDue s.cutover then takeRampStep s else s)

end Sys2Proof.Machine
end

