-- ==== Sys2Proof/Machine/Starts.lean ====
section
/-! DEFINITION. The meanings of the start gates' events (chapter 6): the phases of a pulse train, lockout, confirmation, the
press and the guard, and the board's meter and lockout outputs. Each expiry is taken when its timer has run out in the
step it belongs to, and otherwise does not come (log 2). -/

namespace Sys2Proof.Machine

/-! ### A gate's return to IDLE (06 R105, R107) -/

/-- At gate `t`'s return to IDLE a pending service is served, and the gates then report to the cutover controller. -/
def afterIdle (t : Station) (s : State) : State := reportIdle (servePending t s)

/-- A funding whose pulses are confirmed, missed or need no confirmation (06 R95, R98, R99): an ORDINARY one enters
PRESSING, a SERVICE one returns to IDLE (06 R106). -/
def fundingDelivered (t : Station) (s : State) : State :=
  match (s.gate t).kind with
  | .service => afterIdle t (clearGate t s)
  | .ordinary | .none => enterPressing t s

/-- The end of the train (06 R95): the line is released to the arbiter and the gate leaves PULSING. -/
def endTrain (t : Station) (s : State) : State :=
  let g := s.gate t
  let s1 := releaseLine (gatePlace s t) s
  if g.entry = none ∨ g.early = true then
    fundingDelivered t (modGate t (fun g => { g with phase := .none, phaseTimer := none }) s1)
  else
    modGate t (fun g =>
      { g with
        state := .confirming
        phase := .none
        phaseTimer := none
        confirmTimer := some (gateProfile s t).confirmTimeout }) s1

/-! ### When a gate's expiry comes -/

def heldDue (g : Gate) : Bool := g.state == .pulsing && g.phase == .held && expired g.phaseTimer
def gapDue (g : Gate) : Bool := g.state == .pulsing && g.phase == .gap && expired g.phaseTimer
def lockoutDue (g : Gate) : Bool := g.state == .pulsing && g.phase == .lockoutHold && expired g.lockoutTimer
def confirmDue (g : Gate) : Bool := g.state == .confirming && expired g.confirmTimer
def pressDue (g : Gate) : Bool := g.state == .pressing && expired g.pressTimer
def guardDue (g : Gate) : Bool := expired g.guardTimer

/-- The end of HELD (06 R95 step 3): the line is released, a bundle completes at each c-th pulse, and GAP begins. -/
def endHeld (t : Station) (s : State) : State :=
  let pr := gateProfile s t
  let s1 := if (s.gate t).begun % pr.c = 0 then completeBundle t s else s
  modGate t (fun g => { g with phase := .gap, phaseTimer := some pr.pulseGap }) s1

/-- The end of GAP (06 R95 step 4). -/
def endGap (t : Station) (s : State) : State :=
  if (s.gate t).begun < (s.gate t).planned then considerPulse t s else endTrain t s

/-- The confirm timer of gate `t` expires (06 R99): entry, audit, CONFIRM MISSED, miss report, and the funding goes on. -/
def confirmMissed (t : Station) (s : State) : State :=
  let g := s.gate t
  let p := (gatePlace s t).port
  let queue := match g.entry with
    | some m => slot (s.port p).expect m
    | none => []
  let left := ((queue.find? fun e => e.station == t).map Expectation.outstanding).getD 0
  let s1 := match g.entry with
    | some m => dropExpectation p m t s
    | none => s
  let s2 := modAudits p (fun u => { u with confirmMisses := satAdd u.confirmMisses 1 }) s1
  let s3 := missReport p (post .confirmMissed (p.val + 1) (t.val + 1) left s2)
  fundingDelivered t (modGate t (fun g => { g with confirmTimer := none }) s3)

/-- The press of gate `t` ends (06 R101): START released, the record cleared, the guard started unless play guard is 0. -/
def endPress (t : Station) (s : State) : State :=
  let playGuard := (gateProfile s t).playGuard
  let s1 := clearGate t s
  let s2 := modGate t (fun g => { g with guardTimer := if playGuard = 0 then g.guardTimer else some (1000 * playGuard) }) s1
  afterIdle t s2

/-! ### The board's meter outputs (06 R98) -/

/-- A gate whose entry reached 0 is told so (06 R98). -/
def gateConfirmed (t : Station) (s : State) : State :=
  match (s.gate t).state with
  | .waiting | .pulsing => modGate t (fun g => { g with early := true }) s
  | .confirming => fundingDelivered t (modGate t (fun g => { g with confirmTimer := none }) s)
  | .idle | .pressing => s

/-- A counted meter pulse acts on its queue (06 R98). -/
def countMeterPulse (p : PortNo) (m : OutputNo) (s : State) : State :=
  match slot (s.port p).expect m with
  | [] =>
    post .strayMeter (p.val + 1) (m.val + 1) 0
      (modAudits p (fun u => { u with strayPulses := satAdd u.strayPulses 1 }) s)
  | e :: rest =>
    let setQueue (q : List Expectation) := modPort p (fun pt => { pt with expect := setSlot pt.expect m q })
    if e.outstanding ≤ 1 then gateConfirmed e.station (confirmReport p (setQueue rest s))
    else setQueue ({ e with outstanding := e.outstanding - 1 } :: rest) s

/-- A board meter output changed. -/
def modMeterIn (p : PortNo) (m : OutputNo) (f : MeterInput → MeterInput) (s : State) : State :=
  modPort p (fun pt => { pt with meterIn := modSlot pt.meterIn m f }) s

/-- The measurement of an activation has run its 10 ms on a LIVE port. -/
def activationDue (pt : Port) (m : OutputNo) : Bool := pt.state == .live && expired (slot pt.meterIn m).timer

/-! ### The board's lockout outputs (06 R96) -/

/-- Gate `t` waits in LOCKOUT HOLD for output `o` of port `p`. -/
def waitsForLockout (s : State) (p : PortNo) (o : OutputNo) (t : Station) : Bool :=
  let g := s.gate t
  g.state == .pulsing && g.phase == .lockoutHold && (gatePlace s t).port == p &&
    slot (gateProfile s t).lockout (gatePlace s t).line == some o

/-- Gate `t` begins its pulse if it waits for that output (06 R96). -/
def releaseHold (p : PortNo) (o : OutputNo) (t : Station) (s : State) : State :=
  if waitsForLockout s p o t then beginPulse t s else s

/-! ### The meanings -/

/-- END_OF_HELD (06 R95). -/
def execEndOfHeld (t : Station) (s : State) : Host.Outcome State Fault Refusal :=
  .next (if heldDue (s.gate t) then endHeld t s else s)

/-- END_OF_GAP (06 R95). -/
def execEndOfGap (t : Station) (s : State) : Host.Outcome State Fault Refusal :=
  .next (if gapDue (s.gate t) then endGap t s else s)

/-- BOARD_LOCKOUT_RELEASE (06 R96): the input takes its level, and a release stops the wait of the gates that hold for it. -/
def execBoardLockoutRelease (p : PortNo) (o : OutputNo) (asserted : Bool) (s : State) : Host.Outcome State Fault Refusal :=
  let s1 := modPort p (fun pt => { pt with lockoutIn := setSlot pt.lockoutIn o asserted }) s
  .next (if asserted then s1 else releaseHold p o 3 (releaseHold p o 2 (releaseHold p o 1 (releaseHold p o 0 s1))))

/-- LOCKOUT_WAIT_EXPIRY (06 R96): the gate aborts with LOCKED OUT. -/
def execLockoutWaitExpiry (t : Station) (s : State) : Host.Outcome State Fault Refusal :=
  .next (if lockoutDue (s.gate t) then afterIdle t (abortGate .lockedOut t s) else s)

/-- METER_OUTPUT_EDGE (06 R98): going active on a LIVE port starts the 10 ms measurement; going inactive ends the
activation. The outputs of other ports are not read, and only their level is kept. -/
def execMeterOutputEdge (p : PortNo) (m : OutputNo) (active : Bool) (s : State) : Host.Outcome State Fault Refusal :=
  .next (modMeterIn p m (fun i =>
    { active := active
      timer :=
        if active then (if (s.port p).state = .live ∧ i.active = false then some Config.meterActive else i.timer)
        else none }) s)

/-- BOARD_METER_PULSE (06 R98): a LIVE board's meter output has been active for 10 ms. -/
def execBoardMeterPulse (p : PortNo) (m : OutputNo) (s : State) : Host.Outcome State Fault Refusal :=
  .next (if activationDue (s.port p) m then countMeterPulse p m (modMeterIn p m (fun i => { i with timer := none }) s) else s)

/-- CONFIRM_TIMER_EXPIRY (06 R99). -/
def execConfirmTimerExpiry (t : Station) (s : State) : Host.Outcome State Fault Refusal :=
  .next (if confirmDue (s.gate t) then confirmMissed t s else s)

/-- PRESS_TIMER_EXPIRY (06 R101). -/
def execPressTimerExpiry (t : Station) (s : State) : Host.Outcome State Fault Refusal :=
  .next (if pressDue (s.gate t) then endPress t s else s)

/-- GUARD_TIMER_EXPIRY (06 R92). -/
def execGuardTimerExpiry (t : Station) (s : State) : Host.Outcome State Fault Refusal :=
  .next (if guardDue (s.gate t) then modGate t (fun g => { g with guardTimer := none }) s else s)

end Sys2Proof.Machine
end

