-- ==== Sys2Proof/Machine/Sync.lean ====
section
/-! DEFINITION. The meanings of the sync monitors' events (chapter 5). -/

namespace Sys2Proof.Machine

/-! ### Frames (05 R82, R83, R84) -/

/-- The band whose range holds a line period (05 R82). -/
def bandOf (lp : Nat) : Option Band :=
  if 485 ≤ lp ∧ lp ≤ 533 then some .l
  else if 314 ≤ lp ∧ lp ≤ 340 then some .m
  else if 247 ≤ lp ∧ lp ≤ 262 then some .h
  else none

/-- A frame of a given line period and line count (05 R82). -/
def frameOf (lp f : Nat) : Frame := ⟨lp, f, bandOf lp, decide (200 ≤ f ∧ f ≤ 700) && (bandOf lp).isSome⟩

/-- The line period of the open frame at its close (05 R81). -/
def closedPeriod (fr : OpenFrame) : Nat :=
  min ((fr.seventeenth.getD 0 - fr.first.getD 0).toNat / 16) Config.periodMax

/-- Whether a frame is consistent with the previous one (05 R83). -/
def consistent (previous : Option Frame) (fr : Frame) : Bool :=
  match previous with
  | none => false
  | some pf =>
    fr.valid && pf.valid && decide (fr.lp ≤ pf.lp + 2 ∧ pf.lp ≤ fr.lp + 2) && decide (fr.f ≤ pf.f + 1 ∧ pf.f ≤ fr.f + 1) &&
      fr.band == pf.band

/-- What a monitor reports to board life (05 R86). -/
inductive SyncReport where
  | nothing | lock | loss
  deriving DecidableEq, Repr

/-- The judging of a closed frame in SEARCHING (05 R83). -/
def judgeSearching (m : Monitor) (fr : Frame) : Monitor × SyncReport :=
  if consistent m.previous fr then
    if Config.lockRun ≤ m.consistency + 1 then
      ({ m with
          state := .locked
          consistency := m.consistency + 1
          frozen := fr.band
          reported := some ⟨fr.lp, fr.f⟩
          inconsistency := 0 }, .lock)
    else ({ m with consistency := m.consistency + 1 }, .nothing)
  else ({ m with consistency := 0 }, SyncReport.nothing)

/-- A bad frame in LOCKED (05 R84). -/
def badFrame (m : Monitor) : Monitor × SyncReport :=
  ({ m with inconsistency := m.inconsistency + 1 },
    if Config.lossRun ≤ m.inconsistency + 1 then .loss else .nothing)

/-- The judging of a closed frame in LOCKED (05 R84). -/
def judgeLocked (m : Monitor) (fr : Frame) : Monitor × SyncReport :=
  if consistent m.previous fr && fr.band == m.frozen then
    ({ m with inconsistency := 0, reported := some ⟨fr.lp, fr.f⟩ }, .nothing)
  else badFrame m

/-- The judging of a closed frame (05 R81 step 1), after which it is the last-measured and the previous frame, and a valid
one's line period the estimate. -/
def judgeFrameOf (m : Monitor) (fr : Frame) : Monitor × SyncReport :=
  let judged := match m.state with
    | .searching => judgeSearching m fr
    | .locked => judgeLocked m fr
    | .stopped => (m, SyncReport.nothing)
  ({ judged.1 with
      last := some (.closed fr)
      previous := some fr
      estimate := if fr.valid then some fr.lp else m.estimate }, judged.2)

/-- A frame start (05 R81 steps 1 and 2): the open frame closes and is judged, and a new frame opens. -/
def frameStart (m : Monitor) : Monitor × SyncReport :=
  let closed := match m.frame with
    | none => (m, SyncReport.nothing)
    | some fr => judgeFrameOf m (frameOf (closedPeriod fr) m.h)
  ({ closed.1 with frame := some ⟨none, none⟩, h := 0 }, closed.2)

/-- An OVERLONG frame (05 R80). -/
def overlongFrame (m : Monitor) : Monitor × SyncReport :=
  let judged := match m.state with
    | .searching => ({ m with consistency := 0 }, SyncReport.nothing)
    | .locked => badFrame m
    | .stopped => (m, SyncReport.nothing)
  ({ judged.1 with last := some .overlong, frame := none, previous := none, h := 0 }, judged.2)

/-- The timing of the open frame by a horizontal pulse, the `n`-th since the frame start (05 R80 steps 2 and 3). -/
def timeFrame (edge : Word) (n : Nat) (fr : OpenFrame) : OpenFrame :=
  if fr.first = none then { fr with first := some edge }
  else if fr.seventeenth = none ∧ n = 17 then { fr with seventeenth := some edge }
  else fr

/-- A horizontal pulse (05 R80). -/
def horizontalPulse (edge : Word) (m : Monitor) : Monitor × SyncReport :=
  let m' := { m with h := m.h + 1, frame := m.frame.map (timeFrame edge (m.h + 1)) }
  if Config.overlong ≤ m'.h then overlongFrame m' else (m', SyncReport.nothing)

/-- Whether a pulse is vertical (05 R79). -/
def isVertical (m : Monitor) (width : Nat) : Bool :=
  match m.estimate with
  | some e => decide (e < 4 * width)
  | none => decide (Config.broadPulse < width)

/-- Board life is told what a monitor reports (05 R86). -/
def report (p : PortNo) (r : SyncReport) (s : State) : State :=
  match r with
  | .nothing => s
  | .lock => boardReady p s
  | .loss => boardLost p s

/-- A frame start of port `p`'s monitor is one event (05 R81): close and judge, open, report, offer when LOCKED. A loss
stops the monitor, which discards the frame just opened (log 23). -/
def startFrame (p : PortNo) (s : State) : State :=
  let r := frameStart (s.port p).monitor
  let s1 := report p r.2 (modMonitor p (fun _ => r.1) s)
  if (s1.port p).monitor.state = .locked then offerVsync p s1 else s1

/-- A pulse with leading edge `edge` ends and is classified (05 R79, R80, R81). -/
def classifyPulse (p : PortNo) (edge : Word) (width : Nat) (s : State) : State :=
  let m := (s.port p).monitor
  if isVertical m width then
    if Config.frameStart ≤ m.h then startFrame p s else s
  else
    let r := horizontalPulse edge m
    report p r.2 (modMonitor p (fun _ => r.1) s)

/-- An edge on the sync input of a SEARCHING or LOCKED monitor (05 R79): its count, and the last-edge timer restarted. -/
def takeEdge (units : Word) (m : Monitor) : Monitor := { m with unitCount := units, lastEdge := some Config.lastEdge }

/-- The search restarts (05 R85). -/
def restartSearch (m : Monitor) : Monitor :=
  { m with
    pulse := none
    estimate := none
    h := 0
    frame := none
    previous := none
    consistency := 0
    waitRelease := m.low
    lastEdge := some Config.lastEdge }

def lastEdgeDue (m : Monitor) : Bool := m.state != .stopped && expired m.lastEdge

/-- SYNC_FALLING_EDGE (05 R79). A STOPPED monitor takes no edge; the level of its input is kept (log 6). -/
def execSyncFallingEdge (p : PortNo) (units : Word) (s : State) : Host.Outcome State Fault Refusal :=
  .next (modMonitor p (fun m =>
    match m.state with
    | .stopped => { m with low := true }
    | .searching | .locked => { takeEdge units m with low := true, pulse := some units }) s)

/-- SYNC_RISING_EDGE (05 R79). -/
def execSyncRisingEdge (p : PortNo) (units : Word) (s : State) : Host.Outcome State Fault Refusal :=
  let m := (s.port p).monitor
  .next (match m.state with
    | .stopped => modMonitor p (fun m => { m with low := false }) s
    | .searching | .locked =>
      match m.pulse with
      | some edge =>
        classifyPulse p edge (units - edge).toNat
          (modMonitor p (fun m => { takeEdge units m with low := false, pulse := none }) s)
      | none => modMonitor p (fun m => { takeEdge units m with low := false, waitRelease := false }) s)

/-- LAST_EDGE_TIMER_EXPIRY (05 R85). -/
def execLastEdgeTimerExpiry (p : PortNo) (s : State) : Host.Outcome State Fault Refusal :=
  .next (if lastEdgeDue (s.port p).monitor then
    match (s.port p).monitor.state with
    | .stopped => s
    | .searching => modMonitor p restartSearch s
    | .locked => boardLost p s
    else s)

end Sys2Proof.Machine
end

