-- ==== Sys2Proof/Machine/Clock.lean ====
section
/-! DEFINITION. What the part does with no command waiting (log 1): the expiries that are due are taken, in an order the spec
leaves free (log 3), and when none is due one millisecond passes (00, "Time"; 09 R143). -/

namespace Sys2Proof.Machine

/-! ### A millisecond passes -/

/-- A timer after a millisecond. -/
def Timer.tick (t : Timer) : Timer := t.map fun n => n - 1

def tickChute (c : Chute) : Chute :=
  { c with
    maxWidthTimer := Timer.tick c.maxWidthTimer
    gapTimer := Timer.tick c.gapTimer
    jamClearTimer := Timer.tick c.jamClearTimer }

def tickMeter (m : Meter) : Meter := { m with timer := Timer.tick m.timer }

def tickGate (g : Gate) : Gate :=
  { g with
    phaseTimer := Timer.tick g.phaseTimer
    lockoutTimer := Timer.tick g.lockoutTimer
    confirmTimer := Timer.tick g.confirmTimer
    pressTimer := Timer.tick g.pressTimer
    guardTimer := Timer.tick g.guardTimer }

/-- The SHOWN SECONDS remainder of a LIVE port after a millisecond (09 R143): at the thousandth a second is due (log 27). -/
def tickShown (u : PortAudits) : PortAudits :=
  if Config.second ≤ u.remainder + 1 then { u with secondDue := true } else { u with remainder := u.remainder + 1 }

def tickPort (pt : Port) : Port :=
  { pt with
    settleTimer := Timer.tick pt.settleTimer
    bootTimer := Timer.tick pt.bootTimer
    dischargeTimer := Timer.tick pt.dischargeTimer
    meterIn := mapSlots (fun m => { m with timer := Timer.tick m.timer }) pt.meterIn
    monitor := { pt.monitor with lastEdge := Timer.tick pt.monitor.lastEdge }
    audits := if pt.state = .live then tickShown pt.audits else pt.audits }

/-- One millisecond passes: the time stamp advances, and every running timer runs (00, "Time"). -/
def tick (s : State) : State :=
  { s with
    timeStamp := s.timeStamp + 1
    chutes := mapSlots tickChute s.chutes
    meters := mapSlots tickMeter s.meters
    ports := mapSlots tickPort s.ports
    gates := mapSlots tickGate s.gates
    router := { s.router with
      timers := mapSlots Timer.tick s.router.timers
      chordTimer := Timer.tick s.router.chordTimer }
    resetPin := { s.resetPin with timer := Timer.tick s.resetPin.timer }
    cutover := { s.cutover with
      settleTimer := Timer.tick s.cutover.settleTimer
      ramp := s.cutover.ramp.map fun r => { r with timer := r.timer - 1 } }
    link := { s.link with placeTimer := Timer.tick s.link.placeTimer } }

/-! ### What is due -/

/-- A command, if its expiry is due. -/
def whenDue (due : Bool) (i : Instr) : List Instr := if due then [i] else []

def chuteDues (s : State) (i : ChuteNo) : List Instr :=
  whenDue (maxWidthDue (s.chute i)) (.maxWidthExpiry i) ++ whenDue (gapTimerDue (s.chute i)) (.gapTimerExpiry i) ++
    whenDue (jamClearDue (s.chute i)) (.jamClearExpiry i)

def meterDues (s : State) (m : MeterNo) : List Instr :=
  whenDue (meterOnDue (s.meter m)) (.meterOnExpiry m) ++ whenDue (meterOffDue (s.meter m)) (.meterOffExpiry m)

def portDues (s : State) (p : PortNo) : List Instr :=
  let pt := s.port p
  whenDue (settleDue pt) (.settleTimerExpiry p) ++ whenDue (bootDue pt) (.bootTimerExpiry p) ++
    whenDue (dischargeDue pt) (.dischargeTimerExpiry p) ++ whenDue (lastEdgeDue pt.monitor) (.lastEdgeTimerExpiry p) ++
    whenDue (activationDue pt 0) (.boardMeterPulse p 0) ++ whenDue (activationDue pt 1) (.boardMeterPulse p 1) ++
    whenDue pt.audits.secondDue (.shownSecondsTick p)

def gateDues (s : State) (t : Station) : List Instr :=
  let g := s.gate t
  whenDue (heldDue g) (.endOfHeld t) ++ whenDue (gapDue g) (.endOfGap t) ++ whenDue (lockoutDue g) (.lockoutWaitExpiry t) ++
    whenDue (confirmDue g) (.confirmTimerExpiry t) ++ whenDue (pressDue g) (.pressTimerExpiry t) ++
    whenDue (guardDue g) (.guardTimerExpiry t)

/-- The placement of a response, or RESTART's warm reset, at the end of its bound (10 R152; log 4). -/
def linkDues (l : Link) : List Instr :=
  if expired l.placeTimer then
    match l.preparing with
    | .response _ => [.responsePlacement]
    | .restart => [.warmReset]
    | .nothing => []
  else []

/-- The expiries that are due. -/
def dues (s : State) : List Instr :=
  (List.finRange 4).flatMap (chuteDues s) ++ (List.finRange 2).flatMap (meterDues s) ++
    (List.finRange 8).flatMap (portDues s) ++ (List.finRange 4).flatMap (gateDues s) ++
    (List.finRange 47).flatMap (fun c => whenDue (debounceDue s c) (.debouncedChange c)) ++
    whenDue (pinDue true s.resetPin) .resetPinAsserted ++ whenDue (pinDue false s.resetPin) .resetPinReleased ++
    whenDue (chordDue s.router) .chordTimerExpiry ++ whenDue (monitorSettleDue s.cutover) .monitorSettleExpiry ++
    whenDue (rampDue s.cutover) .rampStepExpiry ++ linkDues s.link

/-! ### Idling -/

/-- With no command waiting: a due expiry becomes the waiting command, chosen freely when several are due (log 3); with
none due, a millisecond passes. -/
def idle (s : State) : State :=
  match dues s with
  | [] => tick s
  | [c] => { s with pending := [c] }
  | c :: d :: cs =>
    { s with
      pending := [(c :: d :: cs).getD (Config.dueChoice s.freeCount % (cs.length + 2)) c]
      freeCount := s.freeCount + 1 }

end Sys2Proof.Machine
end

