-- ==== Sys2Proof/Machine/Reports.lean ====
section
/-! DEFINITION. The commands that report and that work on the books: READ PORT, READ STATUS, READ CONTROLS, the account
commands, READ EVENTS, and the audits (10 R158, R159, section 10.5; 02 R25 to R27; 05 R88, R89; 09 R144, R145; 11 R165). -/

namespace Sys2Proof.Machine

/-! ### READ PORT (04 R76, 05 R89, 02 R39) -/

/-- The line rate in Hz, 0 when absent (05 R88). -/
def lineRate (lp : Nat) : Nat := if lp = 0 then 0 else 8000000 / lp

/-- The frame rate in cHz, 0 when absent (05 R88). -/
def frameRate (lp f : Nat) : Nat := if lp = 0 ∨ f = 0 then 0 else 800000000 / (lp * f)

/-- Lp, F, line rate and frame rate. -/
def figuresBytes (lp f : Nat) : List Byte := be16 lp ++ be16 f ++ be32 (lineRate lp) ++ be32 (frameRate lp f)

/-- Which of a port's timers is running (04 R76). -/
def runningTimer (pt : Port) : Timer :=
  match pt.state with
  | .powering => pt.settleTimer
  | .booting => pt.bootTimer
  | .stopping => pt.dischargeTimer
  | .absent | .off | .queued | .parked | .live => none

/-- The reported part of the sync part (05 R89). -/
def reportedBytes (m : Monitor) : List Byte :=
  match m.reported with
  | some x => figuresBytes x.lp x.f
  | none => figuresBytes 0 0

/-- The last-measured part (05 R89): class, band, and the figures. -/
def lastBytes (m : Monitor) : List Byte :=
  match m.last with
  | none => [0, 0] ++ figuresBytes 0 0
  | some .overlong => [3, 0] ++ figuresBytes 0 0
  | some (.closed fr) => [if fr.valid then 1 else 2, byte (bandCode fr.band)] ++ figuresBytes fr.lp fr.f

/-- The sync part of an installed port (05 R89): 31 bytes. -/
def syncBytes (m : Monitor) : List Byte :=
  [byte m.state.code, byte (bandCode m.frozen), yesNo (m.state != .locked)] ++ reportedBytes m ++ lastBytes m ++
    [byte m.consistency, byte m.inconsistency]

/-- One counter (02 R39): committed credits, lot count, lots. -/
def counterBytes (c : Counter) : List Byte := [byte (committed c), byte c.lots.length] ++ c.lots.flatMap lotBytes

/-- The flags of READ PORT. -/
def portFlags (pt : Port) : Nat :=
  (if pt.profile.isSome then 1 else 0) + (if pt.check then 2 else 0) + (if pt.restart then 4 else 0)

/-- The READ PORT payload of an installed port (10 section 10.5). -/
def portBytes (port : Byte) (pt : Port) : List Byte :=
  [port, byte pt.state.code, byte (portFlags pt), byte pt.missStreak] ++ halfOrNone (runningTimer pt) ++
    syncBytes pt.monitor ++ [byte pt.counters.length] ++ pt.counters.flatMap counterBytes

/-- The READ PORT payload of an ABSENT port (10 R158; log 25): no timer, and every other field clear. -/
def absentBytes (port : Byte) : List Byte := [port, 0, 0, 0] ++ be16 noneHalf ++ List.replicate 32 0

/-- READ PORT (04 R76, 05 R89). -/
def readPortBody (port : Byte) (s : State) : State × Answer :=
  match portOf port with
  | none => invalid 0 s
  | some p =>
    let pt := s.port p
    if pt.state = .absent then done (absentBytes port) s
    else if pt.monitor.state = .searching then (s, .reply ⟨.notSettled, portBytes port pt⟩)
    else done (portBytes port pt) s

/-! ### READ STATUS (10 section 10.5; 01 R15, 04 R76, 06 R110, 08 R140) -/

/-- A list of ports: its length, and eight places head first, the unused ones 00H. -/
def portListBytes (l : List PortNo) : List Byte :=
  byte l.length :: (l.map (fun (p : PortNo) => byte (p.val + 1)) ++ List.replicate 8 0).take 8

/-- The cutover controller's part (08 R140): live source to settle remaining. -/
def cutoverBytes (c : Cutover) : List Byte :=
  [byte (sourceNumber c.live), byte c.band.code, yesNo c.blank, byte c.level,
   byteOrNone (c.ramp.map Ramp.target), byteOrNone (c.pendingSel.map sourceNumber),
   byte ((c.record.map fun r => r.phase.code).getD 0),
   byteOrNone (c.record.map fun r => sourceNumber r.outgoing),
   byteOrNone (c.record.map fun r => sourceNumber r.target)] ++ halfOrNone c.settleTimer

/-- The flags of a chute. -/
def chuteFlags (enabled : Bool) (c : Chute) : Nat :=
  (if enabled then 1 else 0) + (if c.state = .jammed then 2 else 0) + (if c.coil then 4 else 0) +
    (if c.gapTimer.isSome then 8 else 0) + (if c.lastAccepted.isSome then 16 else 0)

/-- One chute (01 R15); the bytes of an absent end time are free (log 18). -/
def chuteBytes (s : State) (i : ChuteNo) : List Byte :=
  let c := s.chute i
  [byte c.state.code, byte (chuteFlags (slot s.settings.chuteEnabled i) c)] ++
    be32 (c.lastAccepted.getD (Config.absentEndTime i s.timeStamp)).toNat

/-- One meter (01 R15). -/
def meterBytes (m : Meter) : List Byte := [byte m.pending, byte m.phase.code]

/-- A guard's remaining time in whole seconds; how a part of a second counts is free (log 17). -/
def guardSeconds (ms : Nat) : Nat := if Config.guardRoundsUp ms then (ms + 999) / 1000 else ms / 1000

/-- One gate (06 R110). -/
def gateBytes (s : State) (t : Station) : List Byte :=
  let g := s.gate t
  [byte g.state.code, byte g.kind.code, byteOrNone (g.place.map fun pl => pl.port.val + 1),
   byteOrNone (g.place.map fun pl => pl.position.val + 1)] ++ be16 g.inFlight ++
    [byte g.planned, byte g.begun, byte g.bundles, byte g.phase.code] ++ halfOrNone (g.guardTimer.map guardSeconds) ++
    [yesNo (t == 0 && s.servicePending)]

/-- The READ STATUS payload. -/
def statusBytes (s : State) : List Byte :=
  [byte s.mode.code, byte s.straps.installed, byte (bandSetCode s.straps.bands)] ++ cutoverBytes s.cutover ++
    [byte (runningLoad s), byte s.settings.powerBudget, byte (poweringCount s)] ++
    portListBytes s.powerQueue ++ portListBytes s.recency ++ (List.finRange 4).flatMap (chuteBytes s) ++
    s.meters.toList.flatMap meterBytes ++ (List.finRange 4).flatMap (gateBytes s)

/-- READ STATUS. -/
def readStatusBody (s : State) : State × Answer := done (statusBytes s) s

/-! ### READ CONTROLS (07 R113) -/

/-- The levels driven on the routed port's lines, released when none is routed. -/
def drivenLevels (s : State) : List Bool :=
  match s.router.routed with
  | none => List.replicate 47 false
  | some p => (List.finRange 47).map fun l => controlLine s p l

/-- READ CONTROLS. -/
def readControlsBody (s : State) : State × Answer :=
  done (packBits s.router.level.toList ++ packBits s.router.marks.toList ++
    [match s.router.routed with
      | none => 0
      | some p => byte (p.val + 1), byte s.router.chord.code] ++
    halfOrNone s.router.chordTimer ++ packBits (drivenLevels s)) s

/-! ### The account commands (02 R25, R26, R27) -/

/-- One account in READ ACCOUNTS: ticks, whole units, remainder (02 R27). -/
def accountBytes (b : Nat) : List Byte := be16 b ++ [byte (b / Config.ticksPerUnit), byte (b % Config.ticksPerUnit)]

/-- READ ACCOUNTS (02 R27). -/
def readAccountsBody (s : State) : State × Answer :=
  done (byte s.settings.accountMode.code :: s.accounts.toList.flatMap accountBytes) s

/-- The effect of an accepted LOAD ACCOUNT (02 R25). -/
def loadBalance (a : AccountNo) (new : Nat) (s : State) : State :=
  coilsFedBy a
    { s with
      accounts := setSlot s.accounts a new
      totalOut := satAdd s.totalOut (s.balance a)
      totalIn := satAdd s.totalIn new }

/-- LOAD ACCOUNT (02 R25). -/
def loadAccountBody (account : Byte) (balance : Half) (s : State) : State × Answer :=
  match quarterOf account.toNat with
  | none => invalid 0 s
  | some a =>
    if s.settings.accountMode = .shared ∧ a ≠ 0 then invalid 0 s
    else if Config.cap < balance.toNat then invalid 1 s
    else if s.mode = .run then refused .notSetup s
    else done (account :: (be16 (s.balance a) ++ be16 balance.toNat)) (loadBalance a balance.toNat s)

/-- One account cleared into TOTAL OUT (02 R26). -/
def clearBalance (a : AccountNo) (s : State) : State :=
  { s with accounts := setSlot s.accounts a 0, totalOut := satAdd s.totalOut (s.balance a) }

/-- CLEAR ACCOUNTS (02 R26). -/
def clearAccountsBody (s : State) : State × Answer :=
  done (s.accounts.toList.flatMap be16) (allCoils (clearBalance 3 (clearBalance 2 (clearBalance 1 (clearBalance 0 s)))))

/-! ### READ EVENTS (11 R165) -/

/-- READ EVENTS: up to eight records removed, the overflow flag read and cleared. -/
def readEventsBody (s : State) : State × Answer :=
  let out := s.events.take Config.eventBatch
  done ([byte out.length, yesNo s.overflow] ++ out.flatMap eventBytes)
    { s with events := s.events.drop Config.eventBatch, overflow := false }

/-! ### The audits (09 R144, R145) -/

/-- A port's snapshot (09 R145). -/
def portAuditBytes (s : State) (p : PortNo) : List Byte :=
  let u := (s.port p).audits
  ([u.starts, u.freeStarts, u.bundlesFunded, u.ticksCharged, u.ticksRefunded, u.ticksConsumed, u.serviceCredits,
    u.confirmMisses, u.strayPulses, u.orphanPulses, u.shownSeconds, u.boots, u.losses].flatMap be32) ++
    be16 u.remainder ++ be32 (portHeld s p)

/-- The cabinet's snapshot (09 R145). -/
def cabinetAuditBytes (s : State) : List Byte :=
  let c := s.cabinet
  (c.coins.toList ++ c.units.toList ++ [c.rejected, c.jams, c.overflowTicks] ++ c.meterOverflow.toList ++
    [s.totalIn, s.totalOut, heldMoney s]).flatMap be32

/-- READ AUDITS (09 R145). -/
def readAuditsBody (subject : Byte) (s : State) : State × Answer :=
  if subject = 0 then done (subject :: cabinetAuditBytes s) s
  else
    match portOf subject with
    | none => invalid 0 s
    | some p => done (subject :: portAuditBytes s p) s

/-- CLEAR AUDITS (09 R144): every counter and every remainder. A second already reached is still to be taken (log 27). -/
def clearAuditsBody (s : State) : State × Answer :=
  done [] { s with
    ports := mapSlots (fun pt => { pt with audits := { zeroAudits with secondDue := pt.audits.secondDue } }) s.ports
    cabinet := zeroCabinet }

/-! ### The meanings -/

/-- READ_PORT. -/
def execReadPort (port : Byte) (s : State) : Host.Outcome State Fault Refusal :=
  .next (takeCommand .readPort [port] (readPortBody port) s)

/-- READ_STATUS. -/
def execReadStatus (s : State) : Host.Outcome State Fault Refusal := .next (takeCommand .readStatus [] readStatusBody s)

/-- READ_CONTROLS. -/
def execReadControls (s : State) : Host.Outcome State Fault Refusal := .next (takeCommand .readControls [] readControlsBody s)

/-- READ_ACCOUNTS. -/
def execReadAccounts (s : State) : Host.Outcome State Fault Refusal := .next (takeCommand .readAccounts [] readAccountsBody s)

/-- LOAD_ACCOUNT. -/
def execLoadAccount (account : Byte) (balance : Half) (s : State) : Host.Outcome State Fault Refusal :=
  .next (takeCommand .loadAccount [account, balance.extractLsb' 8 8, balance.extractLsb' 0 8]
    (loadAccountBody account balance) s)

/-- CLEAR_ACCOUNTS. -/
def execClearAccounts (s : State) : Host.Outcome State Fault Refusal :=
  .next (takeCommand .clearAccounts [] clearAccountsBody s)

/-- READ_EVENTS. -/
def execReadEvents (s : State) : Host.Outcome State Fault Refusal := .next (takeCommand .readEvents [] readEventsBody s)

/-- READ_AUDITS. -/
def execReadAudits (subject : Byte) (s : State) : Host.Outcome State Fault Refusal :=
  .next (takeCommand .readAudits [subject] (readAuditsBody subject) s)

/-- CLEAR_AUDITS. -/
def execClearAudits (s : State) : Host.Outcome State Fault Refusal := .next (takeCommand .clearAudits [] clearAuditsBody s)

end Sys2Proof.Machine
end

