-- ==== Sys2Proof/Machine/Selection.lean ====
section
/-! DEFINITION. The board commands that act: SELECT (08 R127), POWER UP (04 R58), POWER DOWN (04 R60). -/

namespace Sys2Proof.Machine

/-! ### SELECT (08 R127, R128) -/

/-- The target a SELECT's byte names: 0 is MENU, 1 to 8 a port (10 R158). -/
def targetOf (b : Byte) : Option Crosspoint := if b = 0 then some .menu else (portOf b).map .port

/-- The class of an accepted SELECT (08 R127): DONE when the target is shown already. -/
def selectClass (target : Crosspoint) (s : State) : ResponseClass := if alreadyShown target s then .done else .accepted

/-- What an accepted SELECT's response carries (10 R158): the target, and a port's state after the command. -/
def selectPayload (b : Byte) (target : Crosspoint) (after : State) : List Byte :=
  [b, match target with
    | .menu => noneByte
    | .port p => byte (after.port p).state.code]

/-- An accepted SELECT. -/
def selected (b : Byte) (target : Crosspoint) (s : State) : State × Answer :=
  let s' := makeSelection target s
  (s', .reply ⟨selectClass target s, selectPayload b target s'⟩)

/-- CHECK cleared by the clear-check modifier (08 R127 step 4). -/
def clearCheckFlag (p : PortNo) (s : State) : State := modPort p (fun pt => { pt with check := false }) s

/-- SELECT of a port (08 R127 steps 3 and 4). -/
def selectPort (b : Byte) (p : PortNo) (clear : Bool) (s : State) : State × Answer :=
  let pt := s.port p
  if pt.state = .absent then refused .absent s
  else if pt.profile = none then refused .noProfile s
  else if pt.check then
    if clear then selected b (.port p) (clearCheckFlag p s) else refused .check s
  else selected b (.port p) s

/-- SELECT (08 R127), its checks in the order of the rule. -/
def selectBody (target clear : Byte) (s : State) : State × Answer :=
  match targetOf target with
  | none => invalid 0 s
  | some x =>
    if 1 < clear.toNat then invalid 1 s
    else if s.mode = .setup then refused .notRun s
    else
      match x with
      | .menu => selected target .menu s
      | .port p => selectPort target p (clear == 1) s

/-! ### POWER UP (04 R58) -/

/-- The class of an accepted POWER UP in a port state (04 R58). -/
def powerUpClass : PortState → ResponseClass
  | .parked | .live => .done
  | .absent | .off | .queued | .powering | .booting | .stopping => .accepted

/-- POWER UP (04 R58). -/
def powerUpBody (port : Byte) (s : State) : State × Answer :=
  match portOf port with
  | none => invalid 0 s
  | some p =>
    if s.mode = .setup then refused .notRun s
    else if (s.port p).state = .absent then refused .absent s
    else if (s.port p).profile = none then refused .noProfile s
    else
      let s' := requestPower p s
      (s', .reply ⟨powerUpClass (s.port p).state, [byte (s'.port p).state.code]⟩)

/-! ### POWER DOWN (04 R60) -/

/-- A QUEUED port removed from the queue into OFF (04 R60). -/
def dequeuePort (p : PortNo) (s : State) : State :=
  let s1 := modPort p (fun pt => { pt with state := .off }) s
  { s1 with powerQueue := s1.powerQueue.filter (· != p) }

/-- POWER DOWN of a port by its state (04 R60); LIVE is refused before. A pending selection of the port fails with STOPPED,
a cutover to it loses its target, and a place freed in the queue or a slot freed lets the next head be served (04 R62;
log 36). -/
def powerDownPort (p : PortNo) (s : State) : State :=
  match (s.port p).state with
  | .absent | .live => s
  | .off => failPending p .stopped s
  | .queued => serveQueue (failPending p .stopped (dequeuePort p s))
  | .powering => serveQueue (failPending p .stopped (enterStopping p s))
  | .booting => failPending p .stopped (enterStopping p s)
  | .parked => tellTargetLost p (failPending p .stopped (enterStopping p s))
  | .stopping => failPending p .stopped (modPort p (fun pt => { pt with restart := false }) s)

/-- POWER DOWN (04 R60). -/
def powerDownBody (port : Byte) (s : State) : State × Answer :=
  match portOf port with
  | none => invalid 0 s
  | some p =>
    if s.mode = .setup then refused .notRun s
    else if (s.port p).state = .absent then refused .absent s
    else if (s.port p).state = .live then refused .live s
    else
      let s' := powerDownPort p s
      done [byte (s'.port p).state.code] s'

/-! ### The meanings -/

/-- SELECT. -/
def execSelect (target clear : Byte) (s : State) : Host.Outcome State Fault Refusal :=
  .next (takeCommand .select [target, clear] (selectBody target clear) s)

/-- POWER_UP. -/
def execPowerUp (port : Byte) (s : State) : Host.Outcome State Fault Refusal :=
  .next (takeCommand .powerUp [port] (powerUpBody port) s)

/-- POWER_DOWN. -/
def execPowerDown (port : Byte) (s : State) : Host.Outcome State Fault Refusal :=
  .next (takeCommand .powerDown [port] (powerDownBody port) s)

end Sys2Proof.Machine
end

