-- ==== Sys2Proof/Machine/Settings.lean ====
section
/-! DEFINITION. The settings commands: WRITE and READ CABINET (03 R46 to R50), WRITE, READ and CLEAR PROFILE (03 R51 to R55),
WRITE and READ ROUTES (07 R116, R117). -/

namespace Sys2Proof.Machine

/-! ### The cabinet settings (03 R47 to R50) -/

/-- Whether a write in RUN would change a SETUP-only field (03 R48). -/
def changesSetupOnly (s : State) (st : Settings) : Bool :=
  s.settings.accountMode != st.accountMode || s.settings.powerBudget != st.powerBudget

/-- The balances when the account mode is written (02 R23, R24): a change to SHARED merges them, nothing else moves money. -/
def applyAccountMode (old new : AccountMode) (s : State) : State :=
  match old, new with
  | .perStation, .shared => mergeAccounts s
  | .perStation, .perStation | .shared, .shared | .shared, .perStation => s

/-- Whether a settings write leaves the chord as it was (03 R49, 07 R124; log 28). -/
def chordKept (old new : Settings) : Bool :=
  old.chordEnable && new.chordEnable && old.chordFirst == new.chordFirst && old.chordSecond == new.chordSecond

/-- The chord detection at an accepted settings write (07 R124). -/
def applyChord (kept : Bool) (s : State) : State := if kept then s else beginChord (endChord s)

/-- The attenuator at an accepted settings write (03 R49): set at once while MENU is shown and no cutover is in flight.
DESIGN CHOICE (log 38): also by a write that leaves the trim as it was, which moves a level that an earlier write left
behind. -/
def applyTrim (s : State) : State :=
  if s.cutover.live = .menu ∧ s.cutover.record = none then
    modCutover (fun c => { c with level := s.settings.menuTrim }) s
  else s

/-- An accepted WRITE CABINET (03 R49). -/
def applyCabinet (st : Settings) (s : State) : State :=
  applyTrim (applyChord (chordKept s.settings st)
    (allCoils (applyAccountMode s.settings.accountMode st.accountMode { s with settings := st })))

/-- WRITE CABINET (03 R47, R48, R49). -/
def writeCabinetBody (record : List Byte) (s : State) : State × Answer :=
  match firstFailing record (cabinetChecks s record) with
  | some o => invalid o s
  | none =>
    if s.mode = .run ∧ changesSetupOnly s (settingsOf record) then refused .notSetup s
    else done [] (applyCabinet (settingsOf record) s)

/-- READ CABINET (03 R50). -/
def readCabinetBody (s : State) : State × Answer :=
  done (cabinetBytes s.settings ++ [byte (bandSetCode s.straps.bands)]) s

/-! ### Profiles (03 R51 to R55) -/

/-- A port with a profile newly written (03 R53). -/
def portWithProfile (pr : Profile) (pt : Port) : Port :=
  { pt with
    profile := some pr
    counters := List.replicate (counterCount pr) emptyCounter
    missStreak := 0
    routes := pt.routes.filter fun r => routeFits pr r.line }

/-- How many entries of a port's route list a new profile removes (03 R53). -/
def routesRemoved (pr : Profile) (pt : Port) : Nat := (pt.routes.filter fun r => !routeFits pr r.line).length

/-- WRITE PROFILE (03 R51, R52, R53). -/
def writeProfileBody (port : Byte) (record : List Byte) (s : State) : State × Answer :=
  match portOf port with
  | none => invalid 0 s
  | some p =>
    match firstFailing (port :: record) (profileChecks s record) with
    | some o => invalid o s
    | none =>
      match (s.port p).state with
      | .absent => refused .absent s
      | .off =>
        done [byte (routesRemoved (profileRecord record) (s.port p))] (modPort p (portWithProfile (profileRecord record)) s)
      | .queued | .powering | .booting | .parked | .live | .stopping => refused .notOff s

/-- READ PROFILE (03 R55). -/
def readProfileBody (port : Byte) (s : State) : State × Answer :=
  match portOf port with
  | none => invalid 0 s
  | some p =>
    if (s.port p).state = .absent then refused .absent s
    else
      match (s.port p).profile with
      | none => done [port, 0] s
      | some pr => done ([port, 1] ++ profileBytes pr ++ be16 (bundleCost pr) ++ be16 (valuePerCredit pr)) s

/-- CLEAR PROFILE (03 R54). -/
def clearProfileBody (port : Byte) (s : State) : State × Answer :=
  match portOf port with
  | none => invalid 0 s
  | some p =>
    match (s.port p).state with
    | .absent => refused .absent s
    | .off => done [] (modPort p (fun pt => { pt with profile := none, routes := [], counters := [] }) s)
    | .queued | .powering | .booting | .parked | .live | .stopping => refused .notOff s

/-! ### Routes (07 R116, R117) -/

/-- The checks of WRITE ROUTES 2 and 3 (07 R116): the list by itself, and then against the port's profile, if any. -/
def routeListChecks (pt : Port) (count : Byte) (pairs : List (Nat × Nat)) : List FieldCheck :=
  routeChecks count.toNat pairs ++
    match pt.profile with
    | none => []
    | some pr => routeFitChecks pr pairs

/-- WRITE ROUTES (07 R116). -/
def writeRoutesBody (port count : Byte) (entries : List Byte) (s : State) : State × Answer :=
  match portOf port with
  | none => invalid 0 s
  | some p =>
    match firstFailing (port :: count :: entries) (routeListChecks (s.port p) count (routePairs entries)) with
    | some o => invalid o s
    | none =>
      match (s.port p).state with
      | .absent => refused .absent s
      | .off =>
        if (s.port p).profile = none then refused .noProfile s
        else done [count] (modPort p (fun pt => { pt with routes := routesOf (routePairs entries) }) s)
      | .queued | .powering | .booting | .parked | .live | .stopping => refused .notOff s

/-- READ ROUTES (07 R117). -/
def readRoutesBody (port : Byte) (s : State) : State × Answer :=
  match portOf port with
  | none => invalid 0 s
  | some p =>
    let pt := s.port p
    if pt.state = .absent then refused .absent s
    else
      done ([port, byte pt.routes.length] ++ pt.routes.flatMap routeBytes ++
        (List.finRange 47).map fun l => byte (resolve pt l).code) s

/-! ### The meanings -/

/-- WRITE_CABINET. -/
def execWriteCabinet (record : List Byte) (s : State) : Host.Outcome State Fault Refusal :=
  .next (takeCommand .writeCabinet record (writeCabinetBody record) s)

/-- READ_CABINET. -/
def execReadCabinet (s : State) : Host.Outcome State Fault Refusal := .next (takeCommand .readCabinet [] readCabinetBody s)

/-- WRITE_PROFILE. -/
def execWriteProfile (port : Byte) (record : List Byte) (s : State) : Host.Outcome State Fault Refusal :=
  .next (takeCommand .writeProfile (port :: record) (writeProfileBody port record) s)

/-- READ_PROFILE. -/
def execReadProfile (port : Byte) (s : State) : Host.Outcome State Fault Refusal :=
  .next (takeCommand .readProfile [port] (readProfileBody port) s)

/-- CLEAR_PROFILE. -/
def execClearProfile (port : Byte) (s : State) : Host.Outcome State Fault Refusal :=
  .next (takeCommand .clearProfile [port] (clearProfileBody port) s)

/-- WRITE_ROUTES. -/
def execWriteRoutes (port count : Byte) (entries : List Byte) (s : State) : Host.Outcome State Fault Refusal :=
  .next (takeCommand .writeRoutes (port :: count :: entries) (writeRoutesBody port count entries) s)

/-- READ_ROUTES. -/
def execReadRoutes (port : Byte) (s : State) : Host.Outcome State Fault Refusal :=
  .next (takeCommand .readRoutes [port] (readRoutesBody port) s)

end Sys2Proof.Machine
end

