-- ==== Sys2Proof/Machine/Frames.lean ====
section
/-! DEFINITION. The meaning of a command transaction given by its bytes (10 R151). -/

namespace Sys2Proof.Machine

/-- The checks and the effect of a command that passed the frame tests, by its code and payload (10 section 10.4). -/
def commandBody (code : Code) (payload : List Byte) (s : State) : State × Answer :=
  match code, payload with
  | .startRun, _ => startRunBody s
  | .enterSetup, _ => enterSetupBody s
  | .restart, _ => restartBody s
  | .writeCabinet, r => writeCabinetBody r s
  | .readCabinet, _ => readCabinetBody s
  | .writeProfile, p :: r => writeProfileBody p r s
  | .readProfile, p :: _ => readProfileBody p s
  | .clearProfile, p :: _ => clearProfileBody p s
  | .writeRoutes, p :: n :: es => writeRoutesBody p n es s
  | .readRoutes, p :: _ => readRoutesBody p s
  | .select, t :: m :: _ => selectBody t m s
  | .powerUp, p :: _ => powerUpBody p s
  | .powerDown, p :: _ => powerDownBody p s
  | .readPort, p :: _ => readPortBody p s
  | .readStatus, _ => readStatusBody s
  | .readControls, _ => readControlsBody s
  | .readAccounts, _ => readAccountsBody s
  | .loadAccount, a :: hi :: lo :: _ => loadAccountBody a (hi ++ lo) s
  | .clearAccounts, _ => clearAccountsBody s
  | .readEvents, _ => readEventsBody s
  | .readAudits, x :: _ => readAuditsBody x s
  | .clearAudits, _ => clearAuditsBody s
  | .writeProfile, [] | .readProfile, [] | .clearProfile, [] | .writeRoutes, [] | .writeRoutes, [_] | .readRoutes, []
  | .select, [] | .select, [_] | .powerUp, [] | .powerDown, [] | .readPort, [] | .loadAccount, [] | .loadAccount, [_]
  | .loadAccount, [_, _] | .readAudits, [] => (s, .reply badLengthReply)

/-- What a judged frame comes to (10 R151): an error is answered and changes nothing; a frame that passes is carried out. -/
def judgedFrame (v : Verdict) (s : State) : State × Answer :=
  match v with
  | .badLength => (s, .reply badLengthReply)
  | .checkError => (s, .reply checkErrorReply)
  | .unknownCode => (s, .reply unknownCodeReply)
  | .command c p => commandBody c p s
  | .notCommand => (s, .reply checkErrorReply)

/-- FRAME_ERROR (10 R151): the end of a command transaction whose bytes fail a frame test: it is taken, and answered with
the first byte echoed. The bytes are the whole transaction's, so their first one gives its kind (10 R150): bytes that pass
the tests are carried out (log 9), an IGNORED transaction changes nothing, and a fetch is made whole. -/
def execFrameError (frame : List Byte) (s : State) : Host.Outcome State Fault Refusal :=
  .next (match s.link.transaction, kindOf s.link.ready frame with
    | .fetch, _ => s
    | _, .command | _, .dropped | _, .none => endCommand frame (frame.headD 0) (judgedFrame (judgeFrame frame)) s
    | _, .ignored => modLink (ignoredLink (frame.length - 1)) s
    | _, .fetch => modLink (fun l => endFetch (frame.length - 1) (beginFetch l)) s)

end Sys2Proof.Machine
end

