-- ==== Sys2Proof/Machine/Dispatch.lean ====
section
/-! DEFINITION. The meaning of every command: one arm for each row of spec/opcode_table.json, in its order. -/

namespace Sys2Proof.Machine

def exec (i : Instr) (s : State) : Host.Outcome State Fault Refusal :=
  match i with
  | .powerOnReset ports bands => Sys2Proof.Machine.execPowerOnReset ports bands s
  | .rawInputEdge input held => Sys2Proof.Machine.execRawInputEdge input held s
  | .debouncedChange control => Sys2Proof.Machine.execDebouncedChange control s
  | .resetPinAsserted => Sys2Proof.Machine.execResetPinAsserted s
  | .warmReset => Sys2Proof.Machine.execWarmReset s
  | .chuteLeadingEdge chute => Sys2Proof.Machine.execChuteLeadingEdge chute s
  | .chuteTrailingEdge chute => Sys2Proof.Machine.execChuteTrailingEdge chute s
  | .maxWidthExpiry chute => Sys2Proof.Machine.execMaxWidthExpiry chute s
  | .gapTimerExpiry chute => Sys2Proof.Machine.execGapTimerExpiry chute s
  | .jamClearExpiry chute => Sys2Proof.Machine.execJamClearExpiry chute s
  | .meterOnExpiry meter => Sys2Proof.Machine.execMeterOnExpiry meter s
  | .meterOffExpiry meter => Sys2Proof.Machine.execMeterOffExpiry meter s
  | .settleTimerExpiry port => Sys2Proof.Machine.execSettleTimerExpiry port s
  | .bootTimerExpiry port => Sys2Proof.Machine.execBootTimerExpiry port s
  | .dischargeTimerExpiry port => Sys2Proof.Machine.execDischargeTimerExpiry port s
  | .syncFallingEdge port units => Sys2Proof.Machine.execSyncFallingEdge port units s
  | .syncRisingEdge port units => Sys2Proof.Machine.execSyncRisingEdge port units s
  | .lastEdgeTimerExpiry port => Sys2Proof.Machine.execLastEdgeTimerExpiry port s
  | .endOfHeld gate => Sys2Proof.Machine.execEndOfHeld gate s
  | .endOfGap gate => Sys2Proof.Machine.execEndOfGap gate s
  | .boardLockoutRelease port output asserted => Sys2Proof.Machine.execBoardLockoutRelease port output asserted s
  | .lockoutWaitExpiry gate => Sys2Proof.Machine.execLockoutWaitExpiry gate s
  | .boardMeterPulse port meter => Sys2Proof.Machine.execBoardMeterPulse port meter s
  | .confirmTimerExpiry gate => Sys2Proof.Machine.execConfirmTimerExpiry gate s
  | .pressTimerExpiry gate => Sys2Proof.Machine.execPressTimerExpiry gate s
  | .guardTimerExpiry gate => Sys2Proof.Machine.execGuardTimerExpiry gate s
  | .chordTimerExpiry => Sys2Proof.Machine.execChordTimerExpiry s
  | .monitorSettleExpiry => Sys2Proof.Machine.execMonitorSettleExpiry s
  | .rampStepExpiry => Sys2Proof.Machine.execRampStepExpiry s
  | .shownSecondsTick port => Sys2Proof.Machine.execShownSecondsTick port s
  | .fetchStart => Sys2Proof.Machine.execFetchStart s
  | .fetchEnd clocked => Sys2Proof.Machine.execFetchEnd clocked s
  | .droppedTransaction => Sys2Proof.Machine.execDroppedTransaction s
  | .responsePlacement => Sys2Proof.Machine.execResponsePlacement s
  | .frameError frame => Sys2Proof.Machine.execFrameError frame s
  | .startRun => Sys2Proof.Machine.execStartRun s
  | .enterSetup => Sys2Proof.Machine.execEnterSetup s
  | .restart => Sys2Proof.Machine.execRestart s
  | .writeCabinet record => Sys2Proof.Machine.execWriteCabinet record s
  | .readCabinet => Sys2Proof.Machine.execReadCabinet s
  | .writeProfile port record => Sys2Proof.Machine.execWriteProfile port record s
  | .readProfile port => Sys2Proof.Machine.execReadProfile port s
  | .clearProfile port => Sys2Proof.Machine.execClearProfile port s
  | .writeRoutes port count entries => Sys2Proof.Machine.execWriteRoutes port count entries s
  | .readRoutes port => Sys2Proof.Machine.execReadRoutes port s
  | .select target clearCheck => Sys2Proof.Machine.execSelect target clearCheck s
  | .powerUp port => Sys2Proof.Machine.execPowerUp port s
  | .powerDown port => Sys2Proof.Machine.execPowerDown port s
  | .readPort port => Sys2Proof.Machine.execReadPort port s
  | .readStatus => Sys2Proof.Machine.execReadStatus s
  | .readControls => Sys2Proof.Machine.execReadControls s
  | .readAccounts => Sys2Proof.Machine.execReadAccounts s
  | .loadAccount account balance => Sys2Proof.Machine.execLoadAccount account balance s
  | .clearAccounts => Sys2Proof.Machine.execClearAccounts s
  | .readEvents => Sys2Proof.Machine.execReadEvents s
  | .readAudits subject => Sys2Proof.Machine.execReadAudits subject s
  | .clearAudits => Sys2Proof.Machine.execClearAudits s
  | .resetPinReleased => Sys2Proof.Machine.execResetPinReleased s
  | .meterOutputEdge port meter active => Sys2Proof.Machine.execMeterOutputEdge port meter active s
  | .chipSelectFallingEdge => Sys2Proof.Machine.execChipSelectFallingEdge s

end Sys2Proof.Machine
end

