-- ==== Sys2Proof/Safety.lean ====
section
/-! DEFINITION. What a well-kept state of the part is: the invariants the spec states of the whole machine, in the terms the
statements use; and the ways a command of the selector port can answer. -/

namespace Sys2Proof.Safety

open Sys2Proof.Machine

/-! ### A millisecond (00, "Time") -/

/-- A running timer with a millisecond less to run. -/
def oneLess (t : Timer) : Timer := t.map fun n => n - 1

/-- The SHOWN SECONDS of a port after a millisecond (09 R143): the remainder of a LIVE port rises by 1, and at its
thousandth millisecond a second is due (log 27). -/
def shownAfter (pt : Port) : PortAudits :=
  if pt.state ≠ .live then pt.audits
  else if pt.audits.remainder + 1 < 1000 then { pt.audits with remainder := pt.audits.remainder + 1 }
  else { pt.audits with secondDue := true }

/-- `t` is `s` a millisecond later, with nothing due between: the time stamp one more modulo 2^32, every running timer 1 ms
nearer its expiry, the shown time of the LIVE port counted, and all else as it was. -/
structure Ticked (s t : State) : Prop where
  stamp : t.timeStamp = s.timeStamp + 1
  chutes : ∀ i, t.chute i = { s.chute i with
    maxWidthTimer := oneLess (s.chute i).maxWidthTimer
    gapTimer := oneLess (s.chute i).gapTimer
    jamClearTimer := oneLess (s.chute i).jamClearTimer }
  meters : ∀ m, t.meter m = { s.meter m with timer := oneLess (s.meter m).timer }
  gates : ∀ g, t.gate g = { s.gate g with
    phaseTimer := oneLess (s.gate g).phaseTimer
    lockoutTimer := oneLess (s.gate g).lockoutTimer
    confirmTimer := oneLess (s.gate g).confirmTimer
    pressTimer := oneLess (s.gate g).pressTimer
    guardTimer := oneLess (s.gate g).guardTimer }
  ports : ∀ p, t.port p = { s.port p with
    settleTimer := oneLess (s.port p).settleTimer
    bootTimer := oneLess (s.port p).bootTimer
    dischargeTimer := oneLess (s.port p).dischargeTimer
    monitor := { (s.port p).monitor with lastEdge := oneLess (s.port p).monitor.lastEdge }
    meterIn := (t.port p).meterIn
    audits := shownAfter (s.port p) }
  activations : ∀ p m, slot (t.port p).meterIn m =
    { slot (s.port p).meterIn m with timer := oneLess (slot (s.port p).meterIn m).timer }
  router : t.router = { s.router with timers := t.router.timers, chordTimer := oneLess s.router.chordTimer }
  debounces : ∀ c, slot t.router.timers c = oneLess (slot s.router.timers c)
  resetPin : t.resetPin = { s.resetPin with timer := oneLess s.resetPin.timer }
  cutover : t.cutover = { s.cutover with
    settleTimer := oneLess s.cutover.settleTimer
    ramp := s.cutover.ramp.map fun r => { r with timer := r.timer - 1 } }
  link : t.link = { s.link with placeTimer := oneLess s.link.placeTimer }
  rest : t = { s with
    timeStamp := t.timeStamp, chutes := t.chutes, meters := t.meters, gates := t.gates, ports := t.ports
    router := t.router, resetPin := t.resetPin, cutover := t.cutover, link := t.link }

/-! ### What is due (00, "Time") -/

/-- A command is due exactly when its timer stands at 0 in the state it belongs to: the debounce of an input (07 R111, 03 R45),
the timers of the chutes and meters (chapter 1), of the ports and their monitors and meter outputs (chapters 4 to 6), of the
gates (chapter 6), of the exit chord (07 R124) and of the cutover controller (chapter 8). A shown second is due once it was
reached (log 27), and what the selector port prepares at the end of its 2 ms (10 R152; log 4). -/
inductive Due (s : State) : Instr → Prop where
  | debounce (c : Control) : slot s.router.timers c = some 0 → Due s (.debouncedChange c)
  | pinHeld : s.resetPin.timer = some 0 → s.resetPin.raw = true → s.resetPin.filtered = false → Due s .resetPinAsserted
  | pinReleased : s.resetPin.timer = some 0 → s.resetPin.raw = false → s.resetPin.filtered = true →
      Due s .resetPinReleased
  | maxWidth (i : ChuteNo) : (s.chute i).state = .timing → (s.chute i).maxWidthTimer = some 0 → Due s (.maxWidthExpiry i)
  | gap (i : ChuteNo) : (s.chute i).gapTimer = some 0 → Due s (.gapTimerExpiry i)
  | jamClear (i : ChuteNo) : (s.chute i).state = .jammed → (s.chute i).jamClearTimer = some 0 → Due s (.jamClearExpiry i)
  | meterOn (m : MeterNo) : (s.meter m).phase = .on → (s.meter m).timer = some 0 → Due s (.meterOnExpiry m)
  | meterOff (m : MeterNo) : (s.meter m).phase = .off → (s.meter m).timer = some 0 → Due s (.meterOffExpiry m)
  | settle (p : PortNo) : (s.port p).state = .powering → (s.port p).settleTimer = some 0 → Due s (.settleTimerExpiry p)
  | boot (p : PortNo) : (s.port p).state = .booting → (s.port p).bootTimer = some 0 → Due s (.bootTimerExpiry p)
  | discharge (p : PortNo) : (s.port p).state = .stopping → (s.port p).dischargeTimer = some 0 →
      Due s (.dischargeTimerExpiry p)
  | lastEdge (p : PortNo) : (s.port p).monitor.state ≠ .stopped → (s.port p).monitor.lastEdge = some 0 →
      Due s (.lastEdgeTimerExpiry p)
  | meterPulse (p : PortNo) (m : OutputNo) : (s.port p).state = .live → (slot (s.port p).meterIn m).timer = some 0 →
      Due s (.boardMeterPulse p m)
  | shownSecond (p : PortNo) : (s.port p).audits.secondDue = true → Due s (.shownSecondsTick p)
  | endOfHeld (t : Station) : (s.gate t).state = .pulsing → (s.gate t).phase = .held → (s.gate t).phaseTimer = some 0 →
      Due s (.endOfHeld t)
  | endOfGap (t : Station) : (s.gate t).state = .pulsing → (s.gate t).phase = .gap → (s.gate t).phaseTimer = some 0 →
      Due s (.endOfGap t)
  | lockoutWait (t : Station) : (s.gate t).state = .pulsing → (s.gate t).phase = .lockoutHold →
      (s.gate t).lockoutTimer = some 0 → Due s (.lockoutWaitExpiry t)
  | confirm (t : Station) : (s.gate t).state = .confirming → (s.gate t).confirmTimer = some 0 → Due s (.confirmTimerExpiry t)
  | press (t : Station) : (s.gate t).state = .pressing → (s.gate t).pressTimer = some 0 → Due s (.pressTimerExpiry t)
  | guard (t : Station) : (s.gate t).guardTimer = some 0 → Due s (.guardTimerExpiry t)
  | chord : s.router.chord = .timing → s.router.chordTimer = some 0 → Due s .chordTimerExpiry
  | monitorSettle : s.cutover.settleTimer = some 0 → Due s .monitorSettleExpiry
  | rampStep (r : Ramp) : s.cutover.ramp = some r → r.timer = 0 → Due s .rampStepExpiry
  | placement (r : Response) : s.link.placeTimer = some 0 → s.link.preparing = .response r → Due s .responsePlacement
  | warmReset : s.link.placeTimer = some 0 → s.link.preparing = .restart → Due s .warmReset

/-! ### Figures that stay in range -/

/-- No balance passes the cap (02 R18). -/
abbrev BalancesCapped (s : State) : Prop := ∀ a : AccountNo, s.balance a ≤ Config.cap

/-- The event queue holds at most 32 records, and 32 whenever its overflow flag is set (11 R162). -/
abbrev EventsBounded (s : State) : Prop :=
  s.events.length ≤ Config.eventCapacity ∧ (s.overflow = true → s.events.length = Config.eventCapacity)

/-- One meter: at most 255 pending, a phase other than IDLE exactly while an increment is pending, its timer running
exactly then, and the saturation mark clear in IDLE (01 R13, R14). -/
abbrev MeterRight (m : Meter) : Prop :=
  m.pending ≤ Config.meterMax ∧ (m.pending = 0 ↔ m.phase = .idle) ∧ (m.timer = none ↔ m.phase = .idle) ∧
    (m.phase = .idle → m.reported = false)

/-- Both meters. -/
abbrev MetersRight (s : State) : Prop := ∀ m : MeterNo, MeterRight (s.meter m)

/-- Every counter of a port is a whole number up to 4,294,967,295, its remainder below 1,000 (09 R142, R143). -/
abbrev PortCountersBounded (u : PortAudits) : Prop :=
  u.starts ≤ Config.counterMax ∧ u.freeStarts ≤ Config.counterMax ∧ u.bundlesFunded ≤ Config.counterMax ∧
    u.ticksCharged ≤ Config.counterMax ∧ u.ticksRefunded ≤ Config.counterMax ∧ u.ticksConsumed ≤ Config.counterMax ∧
    u.serviceCredits ≤ Config.counterMax ∧ u.confirmMisses ≤ Config.counterMax ∧ u.strayPulses ≤ Config.counterMax ∧
    u.orphanPulses ≤ Config.counterMax ∧ u.shownSeconds ≤ Config.counterMax ∧ u.boots ≤ Config.counterMax ∧
    u.losses ≤ Config.counterMax ∧ u.remainder < Config.second

/-- Every counter of the cabinet is a whole number up to 4,294,967,295 (09 R142). -/
abbrev CabinetCountersBounded (c : CabinetAudits) : Prop :=
  (∀ i : ChuteNo, slot c.coins i ≤ Config.counterMax ∧ slot c.units i ≤ Config.counterMax) ∧
    c.rejected ≤ Config.counterMax ∧ c.jams ≤ Config.counterMax ∧ c.overflowTicks ≤ Config.counterMax ∧
    ∀ m : MeterNo, slot c.meterOverflow m ≤ Config.counterMax

/-- Every audit counter and both money totals are in range (09 R142, R146). -/
abbrev CountersBounded (s : State) : Prop :=
  (∀ p : PortNo, PortCountersBounded (s.port p).audits) ∧ CabinetCountersBounded s.cabinet ∧
    s.totalIn ≤ Config.counterMax ∧ s.totalOut ≤ Config.counterMax

/-! ### The chute coils (01 R9, R15) -/

/-- Every coil shows the result of 01 R9. -/
abbrev CoilsRight (s : State) : Prop := ∀ i : ChuteNo, (s.chute i).coil = coilWanted s i

/-! ### Board life, the sequencer's lists, the cutover -/

/-- A port state in which nothing runs or rises. -/
abbrev AtRest (st : PortState) : Prop := st = .absent ∨ st = .off ∨ st = .stopping

/-- A port that has a picture: PARKED or LIVE. -/
abbrev Showable (st : PortState) : Prop := st = .parked ∨ st = .live

/-- The ports above the installed count, and no others, are ABSENT (03 R41, 04 R57). -/
abbrev AbsentRight (s : State) : Prop := ∀ p : PortNo, (s.port p).state = .absent ↔ s.straps.installed ≤ p.val

/-- The monitor state that a port state goes with (05 R77). -/
def monitorOf : PortState → MonitorState
  | .booting => .searching
  | .parked | .live => .locked
  | .absent | .off | .queued | .powering | .stopping => .stopped

/-- Each monitor's state follows its port's (05 R77). -/
abbrev MonitorsRight (s : State) : Prop := ∀ p : PortNo, (s.port p).monitor.state = monitorOf (s.port p).state

/-- The settle, boot and discharge timers run in POWERING, BOOTING and STOPPING, and nowhere else (04 section 4.1). -/
abbrev TimersRight (s : State) : Prop :=
  ∀ p : PortNo, ((s.port p).settleTimer.isSome ↔ (s.port p).state = .powering) ∧
    ((s.port p).bootTimer.isSome ↔ (s.port p).state = .booting) ∧
    ((s.port p).dischargeTimer.isSome ↔ (s.port p).state = .stopping)

/-- The power queue holds exactly the QUEUED ports, none twice, and holds one only while two ports are POWERING (04 R61,
R62). -/
abbrev QueueRight (s : State) : Prop :=
  s.powerQueue.Nodup ∧ (∀ p : PortNo, p ∈ s.powerQueue ↔ (s.port p).state = .queued) ∧
    poweringCount s ≤ Config.powerSlots ∧ (s.powerQueue ≠ [] → poweringCount s = Config.powerSlots)

/-- The recency list holds exactly the PARKED and LIVE ports, none twice, a LIVE port at its head (04 R69). -/
abbrev RecencyRight (s : State) : Prop :=
  s.recency.Nodup ∧ (∀ p : PortNo, p ∈ s.recency ↔ Showable (s.port p).state) ∧
    ∀ p : PortNo, (s.port p).state = .live → s.recency.head? = some p

/-- The running load, and every profile's load, is within the power budget (04 R63). -/
abbrev LoadRight (s : State) : Prop :=
  runningLoad s ≤ s.settings.powerBudget ∧ ∀ p : PortNo, loadOf (s.port p) ≤ s.settings.powerBudget

/-- In SETUP nothing runs, nothing is asked for, and MENU is shown (03 R40, R43). -/
abbrev SetupQuiet (s : State) : Prop :=
  s.mode = .setup →
    (∀ p : PortNo, AtRest (s.port p).state ∧ (s.port p).restart = false) ∧ s.cutover.record = none ∧
      s.cutover.pendingSel = none ∧ s.cutover.live = .menu

/-- A LIVE port is the live source, and with no cutover in flight a live source that is a port is LIVE (08 R126, R134). -/
abbrev LiveRight (s : State) : Prop :=
  (∀ p : PortNo, (s.port p).state = .live → s.cutover.live = .port p) ∧
    ∀ p : PortNo, s.cutover.record = none → s.cutover.live = .port p → (s.port p).state = .live

/-- What the cutover record says of the ports (08 R129, R134, R137): before SHOW its outgoing source is the live source and
its target, if a port, is PARKED; in SHOW its target is the live source, and LIVE if a port. -/
def RecordRight (s : State) (r : Record) : Prop :=
  (r.phase ≠ .shown → r.outgoing = s.cutover.live ∧ ∀ p : PortNo, r.target = .port p → (s.port p).state = .parked) ∧
    (r.phase = .shown → s.cutover.live = r.target ∧ ∀ p : PortNo, r.target = .port p → (s.port p).state = .live)

/-- The cutover in flight, if one is. -/
abbrev CutoverRight (s : State) : Prop := ∀ r, s.cutover.record = some r → RecordRight s r

/-- The routed port is LIVE (07 R119). -/
abbrev RoutedRight (s : State) : Prop := ∀ p : PortNo, s.router.routed = some p → (s.port p).state = .live

/-- The menu band is strapped (03 R46, R47). -/
abbrev MenuBandStrapped (s : State) : Prop := s.straps.bands.has s.settings.menuBand = true

/-- The ports, the sequencer and the cutover controller agree. -/
structure BoardsRight (s : State) : Prop where
  absent : AbsentRight s
  monitors : MonitorsRight s
  timers : TimersRight s
  queue : QueueRight s
  recency : RecencyRight s
  load : LoadRight s
  setup : SetupQuiet s
  live : LiveRight s
  cutover : CutoverRight s
  routed : RoutedRight s
  menuBand : MenuBandStrapped s

/-! ### Fundings and money (06, 02, 09 R147) -/

/-- The money figures of a profile are in the ranges of 03 R52. -/
abbrev MoneyFields (pr : Profile) : Prop :=
  1 ≤ pr.positions ∧ pr.positions ≤ 4 ∧ 1 ≤ pr.c ∧ 1 ≤ pr.k ∧ pr.k ≤ 6 ∧ 1 ≤ pr.price ∧ 1 ≤ pr.perStart

/-- A port's profile and counters agree (02 R33): one counter for COMMON, one per position for SEPARATE, none without a
profile; FREE and SERVICE lots are worth nothing (02 R34), and a port that is not PARKED or LIVE holds no lot (02 R37). -/
abbrev CountersRight (pt : Port) : Prop :=
  (∀ pr, pt.profile = some pr → MoneyFields pr ∧ pt.counters.length = counterCount pr) ∧
    (pt.profile = none → pt.counters = []) ∧
    (∀ c ∈ pt.counters, ∀ l ∈ c.lots, isShared l = true → l.value = 0) ∧
    (¬ Showable pt.state → ∀ c ∈ pt.counters, c.lots = [])

/-- The bundles a gate has completed, by its step of the train (06 R95). -/
def trainRight (pr : Profile) (g : Gate) : Prop :=
  match g.state with
  | .waiting => g.phase = .none ∧ g.begun = 0 ∧ g.bundles = 0
  | .pulsing =>
    match g.phase with
    | .none => False
    | .held => 1 ≤ g.begun ∧ g.begun ≤ g.planned ∧ g.bundles = (g.begun - 1) / pr.c
    | .gap => 1 ≤ g.begun ∧ g.begun ≤ g.planned ∧ g.bundles = g.begun / pr.c
    | .lockoutHold => g.begun < g.planned ∧ g.bundles = g.begun / pr.c
  | .idle | .confirming | .pressing => True

/-- The in-flight value of a gate that sends pulses: the price of the bundles still to complete, 0 with nothing paid (06
R93, R95, R104). -/
def inFlightRight (pr : Profile) (g : Gate) : Prop :=
  match g.state with
  | .waiting | .pulsing =>
    g.planned % pr.c = 0 ∧ 1 ≤ g.planned ∧
      g.inFlight = if isPaid pr g then (g.planned / pr.c - g.bundles) * bundleCost pr else 0
  | .idle | .confirming | .pressing => g.inFlight = 0

/-- A gate out of IDLE works for a LIVE port at a place that exists, and its train and in-flight value agree (06 6.1). -/
def GateRight (s : State) (t : Station) : Prop :=
  let g := s.gate t
  if g.state = .idle then g = clearedGate g
  else
    match g.place with
    | none => False
    | some pl =>
      (s.port pl.port).state = .live ∧ pl.counter < (s.port pl.port).counters.length ∧
        trainRight (profileOf s pl.port) g ∧ inFlightRight (profileOf s pl.port) g

/-- The arbiter of a line and the gates agree (06 R94): the holder is the gate PULSING there, the list holds the gates
WAITING there, none twice, and nobody waits for a free line. -/
def ArbiterRight (s : State) (p : PortNo) (l : CoinLine) : Prop :=
  let a := slot (s.port p).arbiters l
  let here := fun (t : Station) (st : GateState) =>
    (s.gate t).state = st ∧ ∃ pl ∈ (s.gate t).place, pl.port = p ∧ pl.line = l
  a.waiting.Nodup ∧ (∀ t, t ∈ a.waiting ↔ here t .waiting) ∧ (∀ t, a.holder = some t ↔ here t .pulsing) ∧
    (a.holder = none → a.waiting = [])

/-- From MUTE on, every gate is IDLE and no service is pending (06 R107, 08 R130). -/
abbrev GatesDone (s : State) : Prop := ∀ r, s.cutover.record = some r → r.phase ≠ .hold → gatesQuiet s = true

/-- In SHARED mode account 1 alone holds money: accounts 2 to 4 are empty, and every paid lot and every funding is paid from
account 1 (02 R19, R23, R24). -/
abbrev SharedRight (s : State) : Prop :=
  s.settings.accountMode = .shared →
    (∀ a : AccountNo, a ≠ 0 → s.balance a = 0) ∧
    (∀ p : PortNo, ∀ c ∈ (s.port p).counters, ∀ l ∈ c.lots, ∀ a, l.source = .account a → a = 0) ∧
    ∀ t : Station, ∀ a ∈ (s.gate t).paying, a = 0

/-- A START passed through is held, and no ordinary funding runs under it: the press that begins one is not passed, nor is one
that finds its gate busy (06 R91, R93, R101; log 19). -/
abbrev PassedRight (s : State) : Prop :=
  ∀ t : Station, slot s.router.passed t = true → slot s.router.level (startOf t) = true ∧ (s.gate t).kind ≠ .ordinary

/-- Gates, counters, arbiters and the STARTs passed through agree. -/
structure FundingRight (s : State) : Prop where
  counters : ∀ p : PortNo, CountersRight (s.port p)
  gates : ∀ t : Station, GateRight s t
  arbiters : ∀ (p : PortNo) (l : CoinLine), ArbiterRight s p l
  done : GatesDone s
  shared : SharedRight s
  passed : PassedRight s

/-! ### Claims, the credits of a counter, and the expectation queues (02 R33, R35; 06 R97) -/

/-- Gate `t`, out of IDLE, works at counter `i` of port `p`. -/
abbrev WorksAt (s : State) (t : Station) (p : PortNo) (i : Nat) : Prop :=
  ∃ pl ∈ (s.gate t).place, pl.port = p ∧ pl.counter = i

/-- A gate that has its funding still to deliver: WAITING, PULSING or CONFIRMING (06 R90). -/
abbrev Delivering (g : Gate) : Prop := g.state = .waiting ∨ g.state = .pulsing ∨ g.state = .confirming

/-- A gate whose funding has a claim record (02 R35): an ordinary one until the press, a service one until its bundle. -/
def claims (g : Gate) : Prop :=
  match g.kind with
  | .ordinary => Delivering g
  | .service => (g.state = .waiting ∨ g.state = .pulsing) ∧ g.bundles = 0
  | .none => False

/-- The kind, paying account and pulses planned of a gate out of IDLE (06 R93, R104): ordinary and paid from the account of
its station, or gate 1 serving one bundle of c pulses; only an ordinary start is pressed. -/
def KindRight (s : State) (t : Station) : Prop :=
  let g := s.gate t
  match g.kind with
  | .ordinary => Delivering g → g.paying = some (accountOf s t)
  | .service => t = 0 ∧ Delivering g ∧ g.planned = (gateProfile s t).c
  | .none => g.state = .idle

/-- A claim record against its gate (02 R35): it plans k credits for each bundle to come, and what an ordinary one holds and
plans is enough for its start. -/
def ClaimRight (s : State) (p : PortNo) (i : Nat) (r : Claim) : Prop :=
  let g := s.gate r.station
  let pr := profileOf s p
  claims g ∧ WorksAt s r.station p i ∧
    r.planned = (if g.state = .confirming then 0 else (g.planned / pr.c - g.bundles) * pr.k) ∧
    (g.kind = .ordinary → pr.perStart ≤ r.own + r.shared + r.planned) ∧ (g.kind = .service → r.own = 0 ∧ r.shared = 0)

/-- A credit counter (02 R33, R35): one claim record for each gate that has one here, what the records set aside is on the
lots of its pool, every lot holds a credit, and lots and plans together stay within the board's credit maximum of at most
nine, and so at most nine lots. -/
structure CounterRight (s : State) (p : PortNo) (i : Nat) (c : Counter) : Prop where
  single : (c.claims.map Claim.station).Nodup
  sound : ∀ r ∈ c.claims, ClaimRight s p i r
  complete : ∀ t : Station, claims (s.gate t) → WorksAt s t p i → ∃ r ∈ c.claims, r.station = t
  own : ∀ a : AccountNo,
    ((c.claims.filter fun r => accountOf s r.station == a).map Claim.own).sum ≤ poolCredits (ofAccount a) c.lots
  shared : (c.claims.map Claim.shared).sum ≤ poolCredits isShared c.lots
  lots : ∀ l ∈ c.lots, 1 ≤ l.credits
  bound : committed c ≤ (profileOf s p).creditMax ∧ (profileOf s p).creditMax ≤ 9
  count : c.lots.length ≤ 9

/-- Every credit counter of every port. -/
abbrev CreditsRight (s : State) : Prop :=
  (∀ t : Station, KindRight s t) ∧
    ∀ (p : PortNo) (i : Nat) (c : Counter), (s.port p).counters[i]? = some c → CounterRight s p i c

/-- A gate that waits for its pulses to be confirmed on meter `m` of port `p` (06 R97): its entry is not at 0 yet. -/
abbrev Expects (s : State) (t : Station) (p : PortNo) (m : OutputNo) : Prop :=
  (s.gate t).entry = some m ∧ (∃ pl ∈ (s.gate t).place, pl.port = p) ∧
    ((s.gate t).state = .confirming ∨
      ((s.gate t).state = .waiting ∨ (s.gate t).state = .pulsing) ∧ (s.gate t).early = false)

/-- The expectation queues (06 R97): in each, one entry for each gate that waits for it, with 1 to its planned pulses
outstanding. -/
abbrev ExpectRight (s : State) : Prop :=
  ∀ (p : PortNo) (m : OutputNo),
    let q := slot (s.port p).expect m
    (q.map Expectation.station).Nodup ∧ (∀ t : Station, (∃ e ∈ q, e.station = t) ↔ Expects s t p m) ∧
      ∀ e ∈ q, 1 ≤ e.outstanding ∧ e.outstanding ≤ (s.gate e.station).planned

/-- Neither money total has saturated (09 R147). -/
abbrev TotalsReadable (s : State) : Prop := s.totalIn < Config.counterMax ∧ s.totalOut < Config.counterMax

/-- The money law (09 R147): TOTAL IN minus TOTAL OUT is the held money, while neither total has saturated. -/
def MoneyLaw (s : State) : Prop := TotalsReadable s → s.totalIn = s.totalOut + heldMoney s

/-- The port identity over one event (09 R149): what TICKS CHARGED gained is what TICKS CONSUMED, TICKS REFUNDED and the held
money of the port gained, while none of the three has saturated. -/
def PortLawKept (p : PortNo) (s t : State) : Prop :=
  let u := (s.port p).audits
  let v := (t.port p).audits
  v.ticksCharged < Config.counterMax → v.ticksConsumed < Config.counterMax → v.ticksRefunded < Config.counterMax →
    v.ticksCharged + (u.ticksConsumed + u.ticksRefunded + portHeld s p) =
      u.ticksCharged + (v.ticksConsumed + v.ticksRefunded + portHeld t p)

/-- The commands that set a port's audit counters back: POWER_ON_RESET, and CLEAR AUDITS, by its row or by its frame. -/
def setsBackAudits (c : Instr) : Prop :=
  match c with
  | .powerOnReset _ _ | .clearAudits => True
  | .frameError bytes => decodeFrame bytes = some .clearAudits
  | _ => False

/-! ### The lots of a port that stops (02 R22, R37) -/

/-- What the lots of a port are worth to account `a`. -/
def lotsPaidBy (a : AccountNo) (pt : Port) : Nat :=
  lotsValue ((pt.counters.flatMap Counter.lots).filter fun l => l.source == .account a)

/-- The lots of port `p` in `s` are refunded in `t` (02 R22, R37): each account takes what its lots are worth, up to the cap
of 15,000; what passes the cap goes to OVERFLOW TICKS and TOTAL OUT; the whole goes to TICKS REFUNDED; and every counter is
left empty. -/
def LotsRefunded (p : PortNo) (s t : State) : Prop :=
  let due (a : AccountNo) : Nat := lotsPaidBy a (s.port p)
  let lost (a : AccountNo) : Nat := s.balance a + due a - 15000
  (∀ a, t.balance a = min (s.balance a + due a) 15000) ∧
    t.cabinet.overflowTicks = min (s.cabinet.overflowTicks + (lost 0 + lost 1 + lost 2 + lost 3)) 4294967295 ∧
    t.totalOut = min (s.totalOut + (lost 0 + lost 1 + lost 2 + lost 3)) 4294967295 ∧ t.totalIn = s.totalIn ∧
    (t.port p).audits.ticksRefunded =
      min ((s.port p).audits.ticksRefunded + (due 0 + due 1 + due 2 + due 3)) 4294967295 ∧
    (t.port p).counters = (s.port p).counters.map fun _ => ⟨[], []⟩

/-! ### Pulses and coin lines (06 R94 to R96) -/

/-- The lockout that the profile names for coin line `l` is asserted on the port (06 R96); it is not where none is named. -/
def lineLockedOut (pt : Port) (pr : Profile) (l : CoinLine) : Bool :=
  match slot pr.lockout l with
  | none => false
  | some o => slot pt.lockoutIn o

/-- A gate that holds coin line `l`, before its next pulse (06 R95 step 1, R96): in LOCKOUT HOLD while the lockout is asserted,
and otherwise with that pulse begun and HELD. -/
def beforePulse (pt : Port) (pr : Profile) (l : CoinLine) (g : Gate) : Gate :=
  if lineLockedOut pt pr l then
    { g with state := .pulsing, phase := .lockoutHold, phaseTimer := none, lockoutTimer := some pr.lockoutWait }
  else
    { g with
      state := .pulsing
      phase := .held
      begun := g.begun + 1
      phaseTimer := some pr.pulseWidth
      lockoutTimer := none }

/-- The oldest gate that waits for the line of place `pl`, if one does, is another one than `t` and at that line. -/
abbrev NextInLine (s : State) (t : Station) (pl : Place) : Prop :=
  ∀ w ∈ (slot (s.port pl.port).arbiters pl.line).waiting.head?,
    w ≠ t ∧ ∃ pl' ∈ (s.gate w).place, pl'.port = pl.port ∧ pl'.line = pl.line

/-- The holder has released the line of place `pl` (06 R94): it is free, or the oldest waiting gate holds it. -/
def linePassedOn (pl : Place) (pr : Profile) (s : State) : State :=
  let pt := s.port pl.port
  let lineTo (a : Arbiter) : State :=
    { s with ports := setSlot s.ports pl.port { pt with arbiters := setSlot pt.arbiters pl.line a } }
  match (slot pt.arbiters pl.line).waiting with
  | [] => lineTo ⟨none, []⟩
  | w :: rest => { lineTo ⟨some w, rest⟩ with gates := setSlot s.gates w (beforePulse pt pr pl.line (s.gate w)) }

/-! ### Aborts (06 R102; 02 R22) -/

/-- `x` ticks charged for port `p` are back on account `a` (02 R22): what passes the cap of 15,000 is lost to OVERFLOW TICKS and
TOTAL OUT, the whole counts in TICKS REFUNDED, and the coils that look at the account are re-evaluated (01 R10). -/
def moneyBack (p : PortNo) (a : AccountNo) (x : Nat) (s : State) : State :=
  if x = 0 then s
  else
    let total := s.balance a + x
    let audits := (s.port p).audits
    let u : State := { s with
      accounts := setSlot s.accounts a (min total 15000)
      totalOut := min (s.totalOut + (total - 15000)) 4294967295
      cabinet := { s.cabinet with overflowTicks := min (s.cabinet.overflowTicks + (total - 15000)) 4294967295 }
      ports := setSlot s.ports p { s.port p with
        audits := { audits with ticksRefunded := min (audits.ticksRefunded + x) 4294967295 } } }
    { u with
      chutes := Vector.ofFn fun i => { s.chute i with
        coil := if accountOf s i = a then coilWanted u i else (s.chute i).coil } }

/-- Gate `t`, out of IDLE, aborts (06 R102), by its steps: a WAITING gate leaves the list of its line, and a PULSING one passes
its line on; the pulses begun of the bundle not complete are orphans; the in-flight value is refunded; expectation entry and
claim record go; the gate is IDLE with its record cleared (log 31); and FUNDING ABORTED is posted with the reason and that
value (log 21). An IDLE gate has nothing to abort. -/
def fundingAborted (reason : Nat) (t : Station) (s : State) : State :=
  let g := s.gate t
  match g.place, g.state with
  | none, _ | _, .idle => s
  | some pl, state =>
    let pr := profileOf s pl.port
    let left : State :=
      match state with
      | .waiting =>
        let a := slot (s.port pl.port).arbiters pl.line
        { s with ports := setSlot s.ports pl.port { s.port pl.port with
          arbiters := setSlot (s.port pl.port).arbiters pl.line ⟨a.holder, a.waiting.filter (· != t)⟩ } }
      | .pulsing => linePassedOn pl pr s
      | .idle | .confirming | .pressing => s
    let pt := left.port pl.port
    let c := counterAt s pl
    let ended : State := { left with
      gates := setSlot left.gates t { idleGate with guardTimer := g.guardTimer }
      ports := setSlot left.ports pl.port { pt with
        counters := pt.counters.set pl.counter ⟨c.lots, c.claims.filter fun r => r.station != t⟩
        expect :=
          match g.entry with
          | none => pt.expect
          | some m => setSlot pt.expect m ((slot pt.expect m).filter fun e => e.station != t)
        audits := { pt.audits with
          orphanPulses := min (pt.audits.orphanPulses + (g.begun - g.bundles * pr.c)) 4294967295 } } }
    post .fundingAborted (pl.port.val + 1) (256 * (t.val + 1) + reason) g.inFlight
      (moneyBack pl.port (g.paying.getD 0) g.inFlight ended)

/-- Every busy gate has aborted, in the order of their stations (log 14), every guard has ended, and no service is pending (03
R43 step 2, 04 R70 step 1, 06 R102). -/
def fundingsAborted (reason : Nat) (s : State) : State :=
  let u := fundingAborted reason 3 (fundingAborted reason 2 (fundingAborted reason 1 (fundingAborted reason 0 s)))
  { u with gates := mapSlots (fun g => { g with guardTimer := none }) u.gates, servicePending := false }

/-! ### Ports that stop (04 R70) -/

/-- Port `p`, whose gates are IDLE if it was LIVE, has entered STOPPING from `s` to `t` (04 R70): its timers but the discharge
of 500 ms are stopped and so is its monitor, which keeps its figures (log 22); its lots are refunded and gone; it is out of the
recency list and routed no more; and nothing else changes. -/
structure PortStopped (p : PortNo) (s t : State) : Prop where
  port : t.port p = { s.port p with
    state := .stopping
    settleTimer := none
    bootTimer := none
    dischargeTimer := some 500
    counters := (s.port p).counters.map fun _ => ⟨[], []⟩
    meterIn := (t.port p).meterIn
    monitor := (t.port p).monitor
    audits := { (s.port p).audits with ticksRefunded := (t.port p).audits.ticksRefunded } }
  activations : ∀ m, slot (t.port p).meterIn m = ⟨(slot (s.port p).meterIn m).active, none⟩
  monitor : (t.port p).monitor.state = .stopped ∧ (t.port p).monitor.reported = (s.port p).monitor.reported ∧
    (t.port p).monitor.frozen = (s.port p).monitor.frozen
  others : ∀ q, q ≠ p → t.port q = s.port q
  refunded : BalancesCapped s → CountersBounded s → LotsRefunded p s t
  coils : ∀ i, t.chute i = { s.chute i with
    coil := if lotsPaidBy (accountOf s i) (s.port p) = 0 then (s.chute i).coil else coilWanted t i }
  recency : t.recency = s.recency.filter (· != p)
  router : t.router =
    if s.router.routed = some p then { s.router with routed := none, marks := Vector.replicate 47 false } else s.router
  rest : t = { s with
    ports := t.ports
    accounts := t.accounts
    totalOut := t.totalOut
    cabinet := { s.cabinet with overflowTicks := t.cabinet.overflowTicks }
    chutes := t.chutes
    recency := t.recency
    router := t.router }

/-- A port state in which power is on (04 R56). -/
abbrev Powered (st : PortState) : Prop := st = .powering ∨ st = .booting ∨ st = .parked ∨ st = .live

/-- The sweep of a warm reset or ENTER SETUP from `s`, whose gates have aborted, to `t` (03 R43): SETUP with every coil asserted,
MENU shown, nothing routed, a QUEUED port OFF, every powered one in STOPPING with its lots gone, no port to be powered again,
both lists empty, and nothing posted. -/
structure Swept (s t : State) : Prop where
  mode : t.mode = .setup
  coils : ∀ i, t.chute i = { s.chute i with coil := true }
  cutover : t.cutover = ⟨.menu, s.settings.menuBand, false, s.settings.menuTrim, none, none, none, none⟩
  router : t.router = { s.router with routed := none, marks := Vector.replicate 47 false }
  lists : t.powerQueue = [] ∧ t.recency = []
  quiet : ∀ p, ¬ Powered (s.port p).state → t.port p = { s.port p with
    state := if (s.port p).state = .queued then .off else (s.port p).state
    restart := false }
  stopped : ∀ p, Powered (s.port p).state → t.port p = { s.port p with
      state := .stopping
      restart := false
      settleTimer := none
      bootTimer := none
      dischargeTimer := some 500
      counters := (s.port p).counters.map fun _ => ⟨[], []⟩
      meterIn := (t.port p).meterIn
      monitor := (t.port p).monitor
      audits := { (s.port p).audits with ticksRefunded := (t.port p).audits.ticksRefunded } } ∧
    (∀ m, slot (t.port p).meterIn m = ⟨(slot (s.port p).meterIn m).active, none⟩) ∧ (t.port p).monitor.state = .stopped
  rest : t = { s with
    mode := t.mode
    chutes := t.chutes
    cutover := t.cutover
    router := t.router
    ports := t.ports
    powerQueue := t.powerQueue
    recency := t.recency
    accounts := t.accounts
    totalOut := t.totalOut
    cabinet := { s.cabinet with overflowTicks := t.cabinet.overflowTicks } }

/-- The money of that sweep (02 R22, R37): each account takes what its lots on the powered ports are worth, up to the cap of
15,000; what passes the cap goes to OVERFLOW TICKS and TOTAL OUT; and each port's lots count in its TICKS REFUNDED. -/
def SweptMoney (s t : State) : Prop :=
  let due (a : AccountNo) : Nat :=
    ((List.finRange 8).map fun p => if Powered (s.port p).state then lotsPaidBy a (s.port p) else 0).sum
  let lost (a : AccountNo) : Nat := s.balance a + due a - 15000
  (∀ a, t.balance a = min (s.balance a + due a) 15000) ∧
    t.cabinet.overflowTicks = min (s.cabinet.overflowTicks + (lost 0 + lost 1 + lost 2 + lost 3)) 4294967295 ∧
    t.totalOut = min (s.totalOut + (lost 0 + lost 1 + lost 2 + lost 3)) 4294967295 ∧
    ∀ p, Powered (s.port p).state → (t.port p).audits.ticksRefunded =
      min ((s.port p).audits.ticksRefunded +
        (lotsPaidBy 0 (s.port p) + lotsPaidBy 1 (s.port p) + lotsPaidBy 2 (s.port p) + lotsPaidBy 3 (s.port p))) 4294967295

/-! ### Which records are in range (03 R46, R47, R52; 07 R116) -/

/-- A structural field of the cabinet record, by its offset, is outside its range (03 R46, R47 step 1). -/
abbrev CabinetFieldBad (r : List Byte) (o : Nat) : Prop :=
  ((o = 0 ∨ 5 ≤ o ∧ o ≤ 8 ∨ o = 20 ∨ o = 32) ∧ 1 < at8 r o) ∨
  ((1 ≤ o ∧ o ≤ 4) ∧ (at8 r o = 0 ∨ 100 < at8 r o)) ∨
  ((o = 21 ∨ o = 22) ∧ 46 < at8 r o) ∨
  (o = 27 ∧ (at8 r o = 0 ∨ 3 < at8 r o))

/-- The menu band a cabinet record names is strapped (03 R47 step 3). -/
abbrev RecordBandStrapped (s : State) (r : List Byte) : Prop :=
  (at8 r 27 = 1 ∧ s.straps.bands.l = true) ∨ (at8 r 27 = 2 ∧ s.straps.bands.m = true) ∨
    (at8 r 27 = 3 ∧ s.straps.bands.h = true)

/-- After clamping, the chute max width of a cabinet record is above its min width (03 R47 step 5). -/
abbrev RecordWidthsRight (r : List Byte) : Prop := clamp 5 100 (at16 r 9) < clamp 20 250 (at16 r 11)

/-- After clamping, the power budget of a cabinet record covers every present profile's load (03 R47 step 6). -/
abbrev RecordBudgetRight (s : State) (r : List Byte) : Prop :=
  ∀ p : PortNo, ∀ pr ∈ (s.port p).profile, pr.load ≤ clamp 4 80 (at8 r 31)

/-- The money constraint of a profile record fails (03 R52). -/
abbrev MoneyBad (r : List Byte) : Prop := at8 r 10 < at8 r 9 ∨ at8 r 10 < at8 r 9 - 1 + at8 r 7

/-- Coin line `l`, from 1, is one that the record's credit mode does not use (03 R52). -/
abbrev LineUnused (r : List Byte) (l : Nat) : Prop := if at8 r 5 = 1 then at8 r 0 < l else l ≠ 1

/-- A field of WRITE PROFILE, by its offset in the payload, where the record begins at 1, fails one of its checks (03 R52):
its own range, or one that joins it with other fields. -/
abbrev ProfileFieldBad (s : State) (r : List Byte) (o : Nat) : Prop :=
  let x := at8 r (o - 1)
  (o = 1 ∧ (x = 0 ∨ 4 < x)) ∨
  ((2 ≤ o ∧ o ≤ 5) ∧ (4 < x ∨ x ≠ 0 ∧ (at8 r 0 < o - 1 ∨ ∃ i ∈ [1, 2, 3, 4], i ≠ o - 1 ∧ at8 r i = x))) ∨
  ((o = 6 ∨ o = 12 ∨ 38 ≤ o ∧ o ≤ 40) ∧ 1 < x) ∨
  (o = 7 ∧ (x = 0 ∨ 9 < x)) ∨ (o = 8 ∧ (x = 0 ∨ 6 < x ∨ MoneyBad r)) ∨ (o = 9 ∧ (x = 0 ∨ 60 < x)) ∨
  (o = 10 ∧ (x = 0 ∨ 4 < x ∨ MoneyBad r)) ∨ (o = 11 ∧ (x = 0 ∨ 9 < x ∨ MoneyBad r)) ∨
  ((19 ≤ o ∧ o ≤ 22) ∧ (2 < x ∨ x ≠ 0 ∧ LineUnused r (o - 18))) ∨
  ((25 ≤ o ∧ o ≤ 28) ∧ (2 < x ∨ x ≠ 0 ∧ LineUnused r (o - 24))) ∨
  (o = 33 ∧ 3 < x) ∨ (o = 37 ∧ (x = 0 ∨ 20 < x ∨ s.settings.powerBudget < x))

/-- A profile lacks a line: one of a position above positions, or TEST without test pass (07 R116 check 3). -/
abbrev LineLost (pr : Profile) (line : Nat) : Prop :=
  (line < 44 ∧ pr.positions ≤ line / 11) ∨ (line = 45 ∧ pr.testPass = false)

/-- A field of WRITE ROUTES, by its offset in the payload, fails one of its checks (07 R116 checks 2 and 3): the count at 1,
and the line and the source of entry `i` at 2 + 2i and 3 + 2i. -/
abbrev RouteFieldBad (pt : Port) (n : Byte) (es : List Byte) (o : Nat) : Prop :=
  (o = 1 ∧ 47 < n.toNat) ∨
  ∃ i ∈ List.range n.toNat,
    (o = 2 + 2 * i ∧
      (46 < at8 es (2 * i) ∨ (at8 es (2 * i) < 44 ∧ at8 es (2 * i) % 11 = 10) ∨
        (∃ j ∈ List.range n.toNat, j ≠ i ∧ at8 es (2 * j) = at8 es (2 * i)) ∨
        ∃ pr ∈ pt.profile, LineLost pr (at8 es (2 * i)))) ∨
    (o = 3 + 2 * i ∧ 46 < at8 es (2 * i + 1) ∧ at8 es (2 * i + 1) ≠ 0x80 ∧ at8 es (2 * i + 1) ≠ 0x81)

/-! ### Which source a line has (07 R115, R117) -/

/-- The resolved source of every line of a port, by line: a START line is the gates'; a listed entry gives its source; and the
others take their default route from the profile. A port without a profile has no routes. -/
def LinesRouted (pt : Port) : Prop :=
  (pt.profile = none → ∀ l, resolve pt l = .source .alwaysReleased) ∧
  ∀ pr, pt.profile = some pr →
    (∀ pos : Position, resolve pt (startOf pos) = .gate) ∧
    (∀ l r, isStart l = false → pt.routes.find? (fun e => e.line == l) = some r → resolve pt l = .source r.source) ∧
    (∀ (pos : Position) (i : Fin 11), i.val < 10 → (∀ e ∈ pt.routes, e.line ≠ controlOf pos i) →
      (pr.positions ≤ pos.val ∨ slot pr.stationMap pos = none →
        resolve pt (controlOf pos i) = .source .alwaysReleased) ∧
      ∀ t, pos.val < pr.positions → slot pr.stationMap pos = some t →
        resolve pt (controlOf pos i) = .source (.control (controlOf t i))) ∧
    ((∀ e ∈ pt.routes, e.line ≠ 44) → resolve pt 44 = .source .alwaysReleased) ∧
    ((∀ e ∈ pt.routes, e.line ≠ 45) →
      resolve pt 45 = .source (if pr.testPass then .control 45 else .alwaysReleased)) ∧
    ((∀ e ∈ pt.routes, e.line ≠ 46) → resolve pt 46 = .source (.control 46))

/-! ### Who is evicted (04 R64) -/

/-- Eviction may stop port `q`: it is PARKED, its profile's keep is no, and it is no selection target. -/
def mayGo (s : State) (q : PortNo) : Bool :=
  (s.port q).state == .parked && !(profileOf s q).keep && s.cutover.pendingSel != some (.port q) &&
    (match s.cutover.record with
      | some r => r.target != .port q
      | none => true)

/-- The ports eviction may stop, in the order of its walk: the recency list from its tail. -/
def evictees (s : State) : List PortNo := s.recency.reverse.filter (mayGo s)

/-- The load that the first `k` of them give back. -/
def loadFreed (s : State) (k : Nat) : Nat := (((evictees s).take k).map fun q => loadOf (s.port q)).sum

/-! ### Selections that fail, and the power queue (04 R59 to R66) -/

/-- Port `p`, if it is the pending selection, is that no more, and CUTOVER FAILED is posted with a reason (04 R60, R65, R72). -/
def selectionFailed (p : PortNo) (reason : Nat) (s : State) : State :=
  if s.cutover.pendingSel = some (.port p) then
    { post .cutoverFailed (p.val + 1) reason 0 s with cutover := { s.cutover with pendingSel := none } }
  else s

/-- Port `h` enters POWERING (04 R66). -/
def poweredUp (h : PortNo) (s : State) : State :=
  { s with ports := setSlot s.ports h { s.port h with
    state := .powering, settleTimer := some (profileOf s h).powerSettle } }

/-- The ports of a list are evicted for port `h`, one after another (04 R64): each enters STOPPING, and BOARD EVICTED is
posted. -/
inductive Evicted (h : PortNo) : List PortNo → State → State → Prop where
  | done (s : State) : Evicted h [] s s
  | next (q : PortNo) (qs : List PortNo) (s u t : State) : PortStopped q s u →
      Evicted h qs (post .boardEvicted (q.val + 1) (h.val + 1) 0 u) t → Evicted h (q :: qs) s t

/-- QUEUED port `h`, taken out of the power queue, is placed (04 R62 to R65): powered within the budget; else, with the recency
list in order, refused into OFF where not even all that may go would make room, POWER REFUSED posted, and CUTOVER FAILED (NO
POWER) for the pending selection; or powered once the first of them, no more than it takes, are evicted. -/
def Placed (h : PortNo) (s t : State) : Prop :=
  let load := loadOf (s.port h)
  let all := loadFreed s (evictees s).length
  (runningLoad s + load ≤ s.settings.powerBudget → t = poweredUp h s) ∧
  (s.recency.Nodup → (s.port h).state = .queued →
    (s.settings.powerBudget + all < runningLoad s + load →
      t = selectionFailed h 3 (post .powerRefused (h.val + 1) load (runningLoad s)
        { s with ports := setSlot s.ports h { s.port h with state := .off } })) ∧
    (s.settings.powerBudget < runningLoad s + load → runningLoad s + load ≤ s.settings.powerBudget + all →
      ∃ k u, k ≤ (evictees s).length ∧ runningLoad s + load ≤ s.settings.powerBudget + loadFreed s k ∧
        (∀ j < k, s.settings.powerBudget + loadFreed s j < runningLoad s + load) ∧
        Evicted h ((evictees s).take k) s u ∧ t = poweredUp h u))

/-- The sequencer serves the power queue from `s` to `t` (04 R62): the head is placed while one is there and fewer than two
ports are POWERING. -/
inductive Served : State → State → Prop where
  | empty (s : State) : s.powerQueue = [] → Served s s
  | full (s : State) : 2 ≤ poweringCount s → Served s s
  | head (h : PortNo) (rest : List PortNo) (s u t : State) : s.powerQueue = h :: rest → poweringCount s < 2 →
      Placed h { s with powerQueue := rest } u → Served u t → Served s t

/-! ### Frames and losses (05 R80 to R85; 04 R72, R73; 08 R137 to R139) -/

/-- A frame of line period `lp` and `f` lines is good for a LOCKED monitor (05 R82, R83, R84): valid, in the frozen band, and
within 2 units and 1 line of a valid previous frame of that band. -/
def GoodFrame (m : Monitor) (lp f : Nat) : Prop :=
  200 ≤ f ∧ f ≤ 700 ∧ bandOf lp ≠ none ∧ bandOf lp = m.frozen ∧
    ∃ prev ∈ m.previous, prev.valid = true ∧ prev.band = bandOf lp ∧ lp ≤ prev.lp + 2 ∧ prev.lp ≤ lp + 2 ∧
      f ≤ prev.f + 1 ∧ prev.f ≤ f + 1

/-- A monitor whose pulse has ended at unit count `u` (05 R79). -/
def pulseEnded (u : Word) (m : Monitor) : Monitor :=
  { m with low := false, unitCount := u, pulse := none, lastEdge := some 250 }

/-- A monitor at a frame start that closed a frame of line period `lp` (05 R81): the frame is the last-measured and the
previous one, a valid one's line period the estimate, and a new frame is open. -/
def frameClosed (lp : Nat) (m : Monitor) : Monitor :=
  let fr : Frame := ⟨lp, m.h, bandOf lp, decide (200 ≤ m.h ∧ m.h ≤ 700) && (bandOf lp).isSome⟩
  { m with
    last := some (.closed fr)
    previous := some fr
    estimate := if fr.valid then some lp else m.estimate
    frame := some ⟨none, none⟩
    h := 0 }

/-- An event that makes a LOCKED monitor report loss (05 R84, R85): its last-edge timer runs out; a pulse closes the eighth
bad frame in a row; or a horizontal pulse makes the eighth by its thousandth pulse without a frame start. -/
def LossComes (p : PortNo) (s : State) (c : Instr) : Prop :=
  let m := (s.port p).monitor
  m.state = .locked ∧
    ((c = .lastEdgeTimerExpiry p ∧ m.lastEdge = some 0) ∨
      ∃ edge u, c = .syncRisingEdge p u ∧ m.pulse = some edge ∧ 7 ≤ m.inconsistency ∧
        ((isVertical m (u - edge).toNat = true ∧ 100 ≤ m.h ∧
            ∃ first last, m.frame = some ⟨some first, some last⟩ ∧
              ¬ GoodFrame m (min ((last - first).toNat / 16) 65535) m.h) ∨
          (isVertical m (u - edge).toNat = false ∧ 999 ≤ m.h)))

/-- Board `p`, PARKED or LIVE, its gates ended, is lost from `s` to `t` (04 R72, R73): it has entered STOPPING, with CHECK set and
LOSSES counted, and BOARD LOST is posted with the state it was in. -/
def PortLost (p : PortNo) (s t : State) : Prop :=
  ∃ u, PortStopped p s u ∧ t = { post .boardLost (p.val + 1) (if (s.port p).state = .live then 6 else 5) 0 u with
    ports := setSlot u.ports p { u.port p with
      check := true
      audits := { (u.port p).audits with losses := min ((u.port p).audits.losses + 1) 4294967295 } } }

/-- Every gate is IDLE with no guard, and no service is pending (04 R70 step 1, 06 R102). -/
abbrev GatesEnded (t : State) : Prop :=
  (∀ g, (t.gate g).state = .idle ∧ (t.gate g).guardTimer = none) ∧ t.servicePending = false

/-- No port is routed, and every release-required mark is clear (07 R120). -/
abbrev RoutesEnded (t : State) : Prop := t.router.routed = none ∧ ∀ c, slot t.router.marks c = false

/-- CUTOVER FAILED (SUPERSEDED) for the pending selection, if there is one (08 R128). -/
def superseding (s : State) : State :=
  match s.cutover.pendingSel with
  | none => s
  | some x => post .cutoverFailed (sourceNumber x) 1 0 s

/-! ### Leaving the screen (08 R134) -/

/-- Port `q`, LIVE in `s`, has left LIVE in `t` by its leave action (08 R134 step 2): with PARK it is PARKED, its lots and its
monitor kept; with STOP it is STOPPING, its lots refunded and its monitor stopped, and out of the recency list `recency`,
and it is to be powered again exactly if it was to be before or is the pending selection (08 R128). -/
def LeftLive (q : PortNo) (leave : LeaveAction) (recency : List PortNo) (s t : State) : Prop :=
  match leave with
  | .park =>
    (t.port q).state = .parked ∧ (t.port q).counters = (s.port q).counters ∧
      (t.port q).monitor = (s.port q).monitor ∧ t.accounts = s.accounts ∧ recency = s.recency
  | .stop =>
    (t.port q).state = .stopping ∧ (t.port q).dischargeTimer = some 500 ∧ (t.port q).monitor.state = .stopped ∧
      (BalancesCapped s → CountersBounded s → LotsRefunded q s t) ∧ recency = s.recency.filter (· != q) ∧
      (t.port q).restart = ((s.port q).restart || s.cutover.pendingSel == some (.port q))

/-- The time of one step of a ramp from the present level to `target` (08 R136): 0 where the ramp ends at once. -/
def rampTime (s : State) (target : Nat) : Nat :=
  s.settings.soundRamp / ((s.cutover.level - target) + (target - s.cutover.level))

/-- SHOW of a cutover from `o` to MENU, from `s` to `t` (08 R134 to R136): MENU is the live source, no port is routed, the blank is
released, and the ramp to the menu trim begins, or, with no step to make or no time for one, the cutover is done at once. An
outgoing board still LIVE leaves LIVE by its leave action; any other stays as it is. -/
structure MenuShown (o : Crosspoint) (s t : State) : Prop where
  ramping : 0 < rampTime s s.settings.menuTrim → t.cutover = { s.cutover with
    live := .menu
    blank := false
    ramp := some ⟨s.settings.menuTrim, rampTime s s.settings.menuTrim, rampTime s s.settings.menuTrim⟩
    record := some ⟨.shown, o, .menu⟩ }
  atOnce : rampTime s s.settings.menuTrim = 0 → t.cutover = { s.cutover with
    live := .menu, blank := false, level := s.settings.menuTrim, ramp := none, record := none }
  router : t.router = { s.router with routed := none, marks := Vector.replicate 47 false }
  leaves : ∀ q pr, o = .port q → (s.port q).state = .live → (s.port q).profile = some pr → gatesQuiet s = true →
    LeftLive q pr.leave t.recency s t ∧ ∀ x, x ≠ q → t.port x = s.port x
  stays : (∀ q, o = .port q → (s.port q).state ≠ .live) →
    t = { s with cutover := t.cutover, router := t.router, events := t.events, overflow := t.overflow }
  posted : gatesQuiet s = true ∨ (∀ q, o = .port q → (s.port q).state ≠ .live) → t.events =
    if rampTime s s.settings.menuTrim = 0 then (post .cutoverDone 0 (sourceNumber o) 0 s).events else s.events

/-- BAND of a cutover from `o` to MENU begins in `s`, and `t` is what follows (08 R132 to R134): the lines move to another menu
band, and the settle starts; a settle under way at that band is kept; and with no settle to wait for, SHOW follows at once,
unless it would be done at once and set a pending selection going. -/
def BandToMenu (o : Crosspoint) (s t : State) : Prop :=
  let b := s.settings.menuBand
  (b ≠ s.cutover.band → s.settings.monitorSettle ≠ 0 → t = { s with cutover := { s.cutover with
    band := b, record := some ⟨.band, o, .menu⟩, settleTimer := some s.settings.monitorSettle } }) ∧
  (b = s.cutover.band → s.cutover.settleTimer ≠ none →
    t = { s with cutover := { s.cutover with record := some ⟨.band, o, .menu⟩ } }) ∧
  (b ≠ s.cutover.band ∧ s.settings.monitorSettle = 0 ∨ b = s.cutover.band ∧ s.cutover.settleTimer = none →
    0 < rampTime s s.settings.menuTrim ∨ s.cutover.pendingSel = none →
    MenuShown o { s with cutover := { s.cutover with band := b, settleTimer := none } } t)

/-- BAND of a cutover from `o` to port `q`, in band `b`, begins in `s`, and `t` is what follows (08 R132, R133): the same, and with
no settle to wait for, ALIGN. -/
def BandToPort (o : Crosspoint) (q : PortNo) (b : Band) (s t : State) : Prop :=
  (b ≠ s.cutover.band → s.settings.monitorSettle ≠ 0 → t = { s with cutover := { s.cutover with
    band := b, record := some ⟨.band, o, .port q⟩, settleTimer := some s.settings.monitorSettle } }) ∧
  (b = s.cutover.band → s.cutover.settleTimer ≠ none →
    t = { s with cutover := { s.cutover with record := some ⟨.band, o, .port q⟩ } }) ∧
  (b ≠ s.cutover.band ∧ s.settings.monitorSettle = 0 ∨ b = s.cutover.band ∧ s.cutover.settleTimer = none →
    t = { s with cutover := { s.cutover with band := b, record := some ⟨.align, o, .port q⟩, settleTimer := none } })

/-- The target of the cutover in flight, not yet in SHOW, is lost in `s`, and `t` is what follows (08 R137): CUTOVER FAILED (TARGET
LOST), and the cutover goes on to MENU: in HOLD while a gate is busy, and from MUTE on in BAND, any ramp stopped. -/
def TargetGone (s t : State) : Prop :=
  ∀ r, s.cutover.record = some r →
    let failed := post .cutoverFailed (sourceNumber r.target) 6 0 s
    (r.phase = .hold → gatesQuiet s = false →
      t = { failed with cutover := { s.cutover with record := some { r with target := .menu } } }) ∧
    (r.phase = .mute ∨ r.phase = .band ∨ r.phase = .align →
      BandToMenu r.outgoing { failed with cutover := { s.cutover with ramp := none } } t)

/-- The cutover in flight goes no further by itself: HOLD waits for a gate, MUTE for its ramp, BAND for the settle, ALIGN for a
port's vertical sync, SHOW for that sync or the ramp (08 R130 to R135). -/
def CutoverWaits (s : State) (r : Record) : Prop :=
  match r.phase with
  | .hold => gatesQuiet s = false
  | .mute => s.cutover.level ≠ 15
  | .band => s.cutover.settleTimer ≠ none
  | .align => r.target ≠ .menu
  | .shown => s.cutover.blank = true ∨ s.cutover.ramp ≠ none

/-! ### Presses and the credits they spend (02 R32, R36; 07 R112) -/

/-- The debounce of a press of control `c` has run out. -/
abbrev PressDue (s : State) (c : Control) : Prop :=
  slot s.router.timers c = some 0 ∧ slot s.router.raw c = true ∧ slot s.router.level c = false

/-- A press of control `c` starts the exit chord (07 R124): the chord is enabled, `c` is one of its two controls and the other
is held, and the detection is IDLE. -/
abbrev StartsChord (s : State) (c : Control) : Prop :=
  let level := setSlot s.router.level c true
  s.settings.chordEnable = true ∧ (s.settings.chordFirst = c ∨ s.settings.chordSecond = c) ∧
    slot level s.settings.chordFirst = true ∧ slot level s.settings.chordSecond = true ∧ s.router.chord = .idle

/-- The stations' marks with that of station `t` set, where `c` is the START of station `t` (06 R91, R92; log 19). -/
def startPassed (c : Control) (passes : Station → Bool) (marks : Vector Bool 4) : Vector Bool 4 :=
  match ofStation c with
  | some (t, i) => if i = startIndex then setSlot marks t (passes t) else marks
  | none => marks

/-- A START press of station `t` is passed through to the board (06 R91): its gate is IDLE under its guard, it is mapped to a
position of the LIVE port, and no cutover is in flight. -/
abbrev PassesStart (s : State) (t : Station) : Prop :=
  s.cutover.record = none ∧ (s.gate t).state = .idle ∧ (s.gate t).guardTimer ≠ none ∧
    ∃ p, livePort s = some p ∧ positionOf (profileOf s p) t ≠ none

/-- The router after a press of control `c`: the control is held (07 R111); of a START it is kept whether the press is passed
through (06 R91; log 19); and a press that starts the exit chord moves the detection to TIMING, its timer started for the
chord hold (07 R124). -/
def settled (s : State) (c : Control) : Router :=
  { s.router with
    level := setSlot s.router.level c true
    timers := setSlot s.router.timers c none
    passed := startPassed c (fun t => decide (PassesStart s t)) s.router.passed
    chord := if StartsChord s c then .timing else s.router.chord
    chordTimer := if StartsChord s c then some s.settings.chordHold else s.router.chordTimer }

/-- The credits of lots one by one, oldest first, each with its source and its value. -/
def creditUnits (lots : List Lot) : List (LotSource × Nat) := lots.flatMap fun l => List.replicate l.credits (l.source, l.value)

/-- `after` is what the lots `before` are once `n` credits of source `own` and `m` of FREE and SERVICE were spent, each pool
oldest first, and `ticks` what they were worth (02 R32, R36): other credits stay, lots keep their order, and none is left
empty. -/
def Spent (own : LotSource) (n m : Nat) (before after : List Lot) (ticks : Nat) : Prop :=
  let ofOwn (u : LotSource × Nat) : Bool := u.1 == own
  let ofShared (u : LotSource × Nat) : Bool := u.1 == .free || u.1 == .service
  let was := creditUnits before
  let left := creditUnits after
  left.filter ofOwn = (was.filter ofOwn).drop n ∧ left.filter ofShared = (was.filter ofShared).drop m ∧
    (left.filter fun u => !ofOwn u && !ofShared u) = (was.filter fun u => !ofOwn u && !ofShared u) ∧
    ticks = (((was.filter ofOwn).take n).map Prod.snd).sum + (((was.filter ofShared).take m).map Prod.snd).sum ∧
    (after.map fun l => (l.source, l.value)).Sublist (before.map fun l => (l.source, l.value)) ∧
    ((∀ l ∈ before, 1 ≤ l.credits) → ∀ l ∈ after, 1 ≤ l.credits)

/-- The own-account credits that a start of station `t` spends, of the s it needs (02 R32): from those that its claim record
holds, or from the unclaimed ones if it has none. -/
def ownSpent (s : State) (pr : Profile) (c : Counter) (t : Station) : Nat :=
  min pr.perStart (((c.claims.find? fun r => r.station == t).map Claim.own).getD (unclaimedOwn s c t))

/-- Gate `t`, at place `pl` of a board with profile `pr`, has entered PRESSING from `s` to `u` (06 R100): its s credits, worth
`ticks`, are spent from the counter and its claim record is gone; TOTAL OUT, TICKS CONSUMED, STARTS, FREE STARTS where
nothing was spent, and the PLAYS meter count, METER OVERFLOW what a full meter drops; START PASSED is posted; the START line
is held for the start press width; and nothing else changes. The ticks are summed from the lots' own values (log 29). -/
structure Pressed (t : Station) (pl : Place) (pr : Profile) (ticks : Nat) (s u : State) : Prop where
  gate : u.gate t = { s.gate t with
    state := .pressing
    phase := .none
    phaseTimer := none
    lockoutTimer := none
    confirmTimer := none
    pressTimer := some pr.pressWidth }
  gates : ∀ g, g ≠ t → u.gate g = s.gate g
  line : (s.port pl.port).state = .live → slot pr.stationMap pl.position = some t → (s.gate t).place = some pl →
    startLine u pl.port pl.position = true
  spent : Spent (.account (accountOf s t)) (ownSpent s pr (counterAt s pl) t)
    (pr.perStart - ownSpent s pr (counterAt s pl) t) (counterAt s pl).lots (counterAt u pl).lots ticks
  claims : (counterAt u pl).claims = (counterAt s pl).claims.filter fun r => r.station != t
  counters : ∀ i, i ≠ pl.counter → (u.port pl.port).counters[i]? = (s.port pl.port).counters[i]?
  port : u.port pl.port = { s.port pl.port with
    counters := (u.port pl.port).counters
    audits := { (s.port pl.port).audits with
      ticksConsumed := min ((s.port pl.port).audits.ticksConsumed + ticks) 4294967295
      starts := min ((s.port pl.port).audits.starts + 1) 4294967295
      freeStarts := if ticks = 0 then min ((s.port pl.port).audits.freeStarts + 1) 4294967295
        else (s.port pl.port).audits.freeStarts } }
  ports : ∀ q, q ≠ pl.port → u.port q = s.port q
  out : u.totalOut = min (s.totalOut + ticks) 4294967295
  plays : (u.meter 1).pending = min ((s.meter 1).pending + 1) 255
  coins : u.meter 0 = s.meter 0
  cabinet : u.cabinet = { s.cabinet with
    meterOverflow := setSlot s.cabinet.meterOverflow 1
      (min (slot s.cabinet.meterOverflow 1 + ((s.meter 1).pending + 1 - 255)) 4294967295) }
  posted : (s.meter 1).pending < 255 → u.events = (post .startPassed (pl.port.val + 1) (t.val + 1) ticks s).events
  rest : u = { s with
    gates := u.gates
    ports := u.ports
    totalOut := u.totalOut
    meters := u.meters
    cabinet := u.cabinet
    events := u.events
    overflow := u.overflow }

/-- Gate `t` back in IDLE, its funding record cleared and its guard as it stands (06 R101, R102, R106; log 31). -/
def backToIdle (t : Station) (s : State) : State :=
  { s with gates := setSlot s.gates t { idleGate with guardTimer := (s.gate t).guardTimer } }

/-- A funding of gate `t` at a place of a board with profile `pr` that commits (06 R93 step 4, R104 step 3): the gate's record is
made, and its claim record, and its entry at the tail of the line's meter queue where there is one. A free coin line is
granted at once, and the first pulse begins unless the lockout is asserted; for a line already held the gate is WAITING at the
tail of the arbiter's list (06 R94, R95). -/
def fundingCommitted (t : Station) (pl : Place) (pr : Profile) (kind : FundingKind) (paying : Option AccountNo)
    (inFlight pulses : Nat) (claim : Claim) (s : State) : State :=
  let pt := s.port pl.port
  let c := counterAt s pl
  let a := slot pt.arbiters pl.line
  let waiting : Gate := { s.gate t with
    state := .waiting
    kind := kind
    place := some pl
    paying := paying
    inFlight := inFlight
    planned := pulses
    begun := 0
    bundles := 0
    phase := .none
    entry := slot pr.confirm pl.line
    early := false }
  { s with
    gates := setSlot s.gates t (if a.holder = none then beforePulse pt pr pl.line waiting else waiting)
    ports := setSlot s.ports pl.port { pt with
      counters := pt.counters.set pl.counter ⟨c.lots, c.claims ++ [claim]⟩
      arbiters := setSlot pt.arbiters pl.line
        (if a.holder = none then ⟨some t, a.waiting⟩ else ⟨a.holder, a.waiting ++ [t]⟩)
      expect :=
        match slot pr.confirm pl.line with
        | none => pt.expect
        | some m => setSlot pt.expect m (slot pt.expect m ++ [⟨t, pulses⟩]) } }

/-- Gate 1 serving a service credit on port `p` of profile `pr`, at the position of station 1 (06 R104): one bundle funded with
no charge. -/
def serviceFunded (p : PortNo) (pr : Profile) (pos : Position) (s : State) : State :=
  fundingCommitted 0 (placeOf pr p pos) pr .service none 0 pr.c ⟨0, 0, 0, pr.k⟩ s

/-- A lot made joins those of its counter (02 R34): merged into the newest one where source and value agree, and appended as the
newest otherwise. -/
def LotAdded (lot : Lot) (before after : List Lot) : Prop :=
  (∃ older newest, before = older ++ [newest] ∧ newest.source = lot.source ∧ newest.value = lot.value ∧
    after = older ++ [{ newest with credits := newest.credits + lot.credits }]) ∨
  ((∀ older newest, before = older ++ [newest] → ¬ (newest.source = lot.source ∧ newest.value = lot.value)) ∧
    after = before ++ [lot])

/-- With a cutover waiting in HOLD, another gate than `t` is still busy, so that it waits on when `t` becomes IDLE (06 R107). -/
abbrev HoldWaits (s : State) (t : Station) : Prop :=
  ∀ r, s.cutover.record = some r → r.phase = .hold → ∃ g, g ≠ t ∧ (s.gate g).state ≠ .idle

/-- MUTE of a cutover from `o` to `x` has begun from `u` to `t` (08 R131), with sound to bring down: the blank is asserted and
the ramp to 15 under way; a board that goes has its routes, its marks and every guard ended. -/
structure MuteBegun (o x : Crosspoint) (u t : State) : Prop where
  cutover : t.cutover = { u.cutover with
    record := some ⟨.mute, o, x⟩
    blank := true
    ramp := some ⟨15, u.settings.soundRamp / (15 - u.cutover.level), u.settings.soundRamp / (15 - u.cutover.level)⟩ }
  fromMenu : o = .menu → t.gates = u.gates ∧ t.router = u.router
  fromBoard : ∀ q, o = .port q → RoutesEnded t ∧ (∀ g, t.gate g = { u.gate g with guardTimer := none }) ∧
    t.router = { u.router with routed := none, marks := t.router.marks }
  rest : t = { u with cutover := t.cutover, gates := t.gates, router := t.router }

/-! ### How a command answers (10 R152, R156) -/

/-- The selector port after a command frame was taken and answered with a reply that is still to be placed. -/
def answeredLink (code : Code) (payload : List Byte) (r : Reply) (l : Link) : Link :=
  prepare (.response (composed code.byte r)) (takenLink (commandFrame code payload) l)

/-- `s` with the answer to a command in preparation and nothing else changed. -/
def answered (code : Code) (payload : List Byte) (r : Reply) (s : State) : State :=
  { s with link := answeredLink code payload r s.link }

/-- A command's transaction ends as one that is taken: it began with READY high (10 R150). -/
abbrev Takes (s : State) : Prop := s.link.transaction = .command

/-! ### What the reports carry (10 section 10.5) -/

/-- A payload has a field's bytes at an offset. -/
abbrev HasAt (x : List Byte) (o : Nat) (f : List Byte) : Prop := (x.drop o).take f.length = f

/-- The byte at an offset holds flags, from bit 0 on. -/
abbrev FlagsAt (x : List Byte) (o : Nat) (flags : List Bool) : Prop :=
  ∀ i : Fin 8, (x.getD o 0).getLsbD i = flags.getD i false

/-- Six bytes from an offset hold a level for each control or line: bit j mod 8 of byte j ÷ 8 for number j. -/
abbrev LevelsAt (x : List Byte) (o : Nat) (level : Control → Bool) : Prop :=
  (∀ c : Control, (x.getD (o + c.val / 8) 0).getLsbD (c.val % 8) = level c) ∧ (x.getD (o + 5) 0).getLsbD 7 = false

/-- A one-byte field that may be none. -/
def oneByte (n : Option Nat) : List Byte := [(n.map byte).getD 0xFF]

/-- A two-byte field that may be none. -/
def twoBytes (n : Option Nat) : List Byte := (n.map be16).getD [0xFF, 0xFF]

/-- An Lp with an F, and the two rates they give (05 R88); absent, all are 0. -/
def figures (x : Option Figures) : List Byte :=
  match x with
  | some f => be16 f.lp ++ be16 f.f ++ be32 (lineRate f.lp) ++ be32 (frameRate f.lp f.f)
  | none => List.replicate 12 0

/-- The codes of the fields that the reports carry (10 R160). -/
abbrev CodesRight : Prop :=
  [PortState.absent, .off, .queued, .powering, .booting, .parked, .live, .stopping].map PortState.code =
    [0, 1, 2, 3, 4, 5, 6, 7] ∧
  [none, some Band.l, some Band.m, some Band.h].map bandCode = [0, 1, 2, 3] ∧
  [Mode.setup, .run].map Mode.code = [0, 1] ∧
  [MonitorState.stopped, .searching, .locked].map MonitorState.code = [0, 1, 2] ∧
  [GateState.idle, .waiting, .pulsing, .confirming, .pressing].map GateState.code = [0, 1, 2, 3, 4] ∧
  [FundingKind.none, .ordinary, .service].map FundingKind.code = [0, 1, 2] ∧
  [PulsePhase.none, .held, .gap, .lockoutHold].map PulsePhase.code = [0, 1, 2, 3] ∧
  [ChuteState.quiet, .timing, .jammed].map ChuteState.code = [0, 1, 2] ∧
  [MeterPhase.idle, .on, .off].map MeterPhase.code = [0, 1, 2] ∧
  [ChordState.idle, .timing, .fired].map ChordState.code = [0, 1, 2] ∧
  [CutoverPhase.hold, .mute, .band, .align, .shown].map CutoverPhase.code = [1, 2, 3, 4, 5] ∧
  (∀ a : AccountNo, (LotSource.account a).code = a.val + 1) ∧ LotSource.free.code = 0x10 ∧
    LotSource.service.code = 0x11

/-- One credit counter as READ PORT carries it (02 R39): committed credits, lot count, the lots oldest first. -/
def counterSpelled (c : Counter) : List Byte :=
  [byte ((c.lots.map Lot.credits).sum + (c.claims.map Claim.planned).sum), byte c.lots.length] ++
    c.lots.flatMap fun l => [byte l.source.code, byte l.credits] ++ be16 l.value

/-- The READ PORT payload of an installed port, from byte 1 on (04 R76, 05 R89). -/
abbrev PortSays (pt : Port) (x : List Byte) : Prop :=
  HasAt x 1 [byte pt.state.code] ∧ FlagsAt x 2 [pt.profile.isSome, pt.check, pt.restart] ∧ HasAt x 3 [byte pt.missStreak] ∧
  HasAt x 4 (twoBytes (if pt.state = .powering then pt.settleTimer
    else if pt.state = .booting then pt.bootTimer
    else if pt.state = .stopping then pt.dischargeTimer
    else none)) ∧
  HasAt x 6 [byte pt.monitor.state.code, byte (bandCode pt.monitor.frozen)] ∧
  FlagsAt x 8 [decide (pt.monitor.state ≠ .locked)] ∧ HasAt x 9 (figures pt.monitor.reported) ∧
  HasAt x 21 (match pt.monitor.last with
    | none => [0, 0] ++ figures none
    | some .overlong => [3, 0] ++ figures none
    | some (.closed fr) => [if fr.valid then 1 else 2, byte (bandCode fr.band)] ++ figures (some ⟨fr.lp, fr.f⟩)) ∧
  HasAt x 35 [byte pt.monitor.consistency, byte pt.monitor.inconsistency, byte pt.counters.length] ∧
  x.drop 38 = pt.counters.flatMap counterSpelled

/-- The READ STATUS payload (01 R15, 04 R76, 06 R110, 08 R140). A guard's seconds are its milliseconds divided by 1,000 and
rounded either way (log 17), and the bytes of an absent end time are any (log 18). -/
abbrev StatusSays (s : State) (x : List Byte) : Prop :=
  let sources (l : List PortNo) : List Byte := l.map fun p => byte (p.val + 1)
  HasAt x 0 [byte s.mode.code, byte s.straps.installed] ∧
  FlagsAt x 2 [s.straps.bands.l, s.straps.bands.m, s.straps.bands.h] ∧
  HasAt x 3 [byte (sourceNumber s.cutover.live), byte s.cutover.band.code, if s.cutover.blank then 1 else 0,
    byte s.cutover.level] ∧
  HasAt x 7 (oneByte (s.cutover.ramp.map Ramp.target) ++ oneByte (s.cutover.pendingSel.map sourceNumber)) ∧
  HasAt x 9 (match s.cutover.record with
    | none => [0, 0xFF, 0xFF]
    | some r => [byte r.phase.code, byte (sourceNumber r.outgoing), byte (sourceNumber r.target)]) ∧
  HasAt x 12 (twoBytes s.cutover.settleTimer) ∧
  HasAt x 14 [byte (runningLoad s), byte s.settings.powerBudget, byte (poweringCount s)] ∧
  (s.powerQueue.length ≤ 8 → HasAt x 17 ([byte s.powerQueue.length] ++ sources s.powerQueue ++
    List.replicate (8 - s.powerQueue.length) 0)) ∧
  (s.recency.length ≤ 8 → HasAt x 26 ([byte s.recency.length] ++ sources s.recency ++
    List.replicate (8 - s.recency.length) 0)) ∧
  (∀ i : ChuteNo,
    let c := s.chute i
    HasAt x (35 + 6 * i.val) [byte c.state.code] ∧
    FlagsAt x (36 + 6 * i.val) [slot s.settings.chuteEnabled i, decide (c.state = .jammed), c.coil, c.gapTimer.isSome,
      c.lastAccepted.isSome] ∧
    ∀ w ∈ c.lastAccepted, HasAt x (37 + 6 * i.val) (be32 w.toNat)) ∧
  (∀ m : MeterNo, HasAt x (59 + 2 * m.val) [byte (s.meter m).pending, byte (s.meter m).phase.code]) ∧
  ∀ t : Station,
    let g := s.gate t
    let o := 63 + 13 * t.val
    HasAt x o [byte g.state.code, byte g.kind.code] ∧
    HasAt x (o + 2) (oneByte (g.place.map fun pl => pl.port.val + 1) ++
      oneByte (g.place.map fun pl => pl.position.val + 1)) ∧
    HasAt x (o + 4) (be16 g.inFlight ++ [byte g.planned, byte g.begun, byte g.bundles, byte g.phase.code]) ∧
    (g.guardTimer = none → HasAt x (o + 10) [0xFF, 0xFF]) ∧
    (∀ ms ∈ g.guardTimer, HasAt x (o + 10) (be16 (ms / 1000)) ∨ HasAt x (o + 10) (be16 ((ms + 999) / 1000))) ∧
    FlagsAt x (o + 12) [decide (t = 0) && s.servicePending]

/-- The READ CONTROLS payload (07 R113). -/
abbrev ControlsSay (s : State) (x : List Byte) : Prop :=
  LevelsAt x 0 (slot s.router.level) ∧ LevelsAt x 6 (slot s.router.marks) ∧
  HasAt x 12 [match s.router.routed with | none => 0 | some p => byte (p.val + 1)] ∧
  HasAt x 13 [byte s.router.chord.code] ∧ HasAt x 14 (twoBytes s.router.chordTimer) ∧
  LevelsAt x 16 fun l => match s.router.routed with
    | none => false
    | some p => controlLine s p l

/-- The money that port `p`'s lots hold, and that gates hold in flight for it (09 R145). -/
def lotMoney (s : State) (p : PortNo) : Nat :=
  (((s.port p).counters.flatMap Counter.lots).map fun l => l.credits * l.value).sum

def flightMoney (s : State) (p : PortNo) : Nat :=
  ((List.finRange 4).map fun t => if (s.gate t).place.map Place.port = some p then (s.gate t).inFlight else 0).sum

end Sys2Proof.Safety
end

