-- ==== Sys2Proof/WellFormed.lean ====
section
/-! DEFINITION. Which commands are well formed: the operand checks that the types of `Instr` do not already make. -/

namespace Sys2Proof

/-- A payload of the length the row's command takes (10 section 10.4), which the receive frame can hold (10 R151). -/
def Instr.payloadFits (i : Instr) : Bool :=
  match i.spell with
  | none => true
  | some (c, p) => c.takes p

/-- A FRAME_ERROR carries the bytes of a command transaction (first byte 01H to 7FH, 10 R150) that fail a frame test. -/
def Instr.isFrameError (bytes : List Byte) : Bool :=
  match judgeFrame bytes with
  | .badLength | .checkError | .unknownCode => true
  | .notCommand | .command _ _ => false

/-- A command is well formed when its payload has its command's length and, for FRAME_ERROR, when its bytes are an
erroneous command frame. Every other operand is in range by its type. -/
def Instr.wellFormed (i : Instr) : Bool :=
  i.payloadFits &&
    match i with
    | .frameError bytes => Instr.isFrameError bytes
    | _ => true

end Sys2Proof
end

