-- ==== Sys2Proof/Certificates/Slice0/Obligations.lean ====
section
/-! DEFINITION. The statements about the model, for the provers. -/

open Sys2Proof Sys2Proof.Machine Sys2Proof.Safety

/-! ### The queue and the clock -/

/-- A step with a command at the front of the queue is that command's meaning, on the queue's rest. The queue is the
model's (log 1). -/
def Obligations.StepRunsTheFrontCommand : Prop :=
  ∀ (c : Instr) (rest : List Instr) (s : State),
    step { s with pending := c :: rest } = exec c { s with pending := rest }

/-- The due expiries are exactly the commands whose timer stands at 0 in the state it belongs to (a shown second once reached,
log 27, and what the selector port prepares at the end of its 2 ms, log 4). With no command waiting the clock runs, by the
model's choice (log 1, log 3): one of them becomes the waiting command, whichever it is; and when none is due a millisecond passes, in which the time stamp advances modulo 2^32, every
running timer comes 1 ms nearer its expiry, and the SHOWN SECONDS remainder of the LIVE port rises by 1 until, at the
thousandth, a second is due (log 27). Nothing else changes. -/
def Obligations.EmptyQueueRunsTheClock : Prop :=
  (∀ (s : State) (c : Instr), c ∈ dues s ↔ Due s c) ∧
  (∀ s : State, s.pending = [] →
    (dues s = [] → step s = .next (tick s) ∧ Ticked s (tick s)) ∧
    (dues s ≠ [] → ∃ c ∈ dues s, ∃ n, step s = .next { s with pending := [c], freeCount := n }))

/-- The spec stops the part nowhere: every command has a next state. -/
def Obligations.EveryCommandCompletes : Prop := ∀ (c : Instr) (s : State), ∃ t, exec c s = .next t

/-- The command of an expiry, a placement or a reset that is not due changes nothing: the model's reading of a row that
comes without its cause (log 2). -/
def Obligations.NothingDueChangesNothing : Prop :=
  ∀ s : State,
    (∀ c, slot s.router.timers c ≠ some 0 → exec (.debouncedChange c) s = .next s) ∧
    (∀ i, ¬((s.chute i).state = .timing ∧ (s.chute i).maxWidthTimer = some 0) → exec (.maxWidthExpiry i) s = .next s) ∧
    (∀ i, (s.chute i).gapTimer ≠ some 0 → exec (.gapTimerExpiry i) s = .next s) ∧
    (∀ i, ¬((s.chute i).state = .jammed ∧ (s.chute i).jamClearTimer = some 0) → exec (.jamClearExpiry i) s = .next s) ∧
    (∀ m, ¬((s.meter m).phase = .on ∧ (s.meter m).timer = some 0) → exec (.meterOnExpiry m) s = .next s) ∧
    (∀ m, ¬((s.meter m).phase = .off ∧ (s.meter m).timer = some 0) → exec (.meterOffExpiry m) s = .next s) ∧
    (∀ p, ¬((s.port p).state = .powering ∧ (s.port p).settleTimer = some 0) →
      exec (.settleTimerExpiry p) s = .next s) ∧
    (∀ p, ¬((s.port p).state = .booting ∧ (s.port p).bootTimer = some 0) → exec (.bootTimerExpiry p) s = .next s) ∧
    (∀ p, ¬((s.port p).state = .stopping ∧ (s.port p).dischargeTimer = some 0) →
      exec (.dischargeTimerExpiry p) s = .next s) ∧
    (∀ p, ¬((s.port p).monitor.state ≠ .stopped ∧ (s.port p).monitor.lastEdge = some 0) →
      exec (.lastEdgeTimerExpiry p) s = .next s) ∧
    (∀ t, ¬((s.gate t).state = .pulsing ∧ (s.gate t).phase = .held ∧ (s.gate t).phaseTimer = some 0) →
      exec (.endOfHeld t) s = .next s) ∧
    (∀ t, ¬((s.gate t).state = .pulsing ∧ (s.gate t).phase = .gap ∧ (s.gate t).phaseTimer = some 0) →
      exec (.endOfGap t) s = .next s) ∧
    (∀ t, ¬((s.gate t).state = .pulsing ∧ (s.gate t).phase = .lockoutHold ∧ (s.gate t).lockoutTimer = some 0) →
      exec (.lockoutWaitExpiry t) s = .next s) ∧
    (∀ p m, ¬((s.port p).state = .live ∧ (slot (s.port p).meterIn m).timer = some 0) →
      exec (.boardMeterPulse p m) s = .next s) ∧
    (∀ t, ¬((s.gate t).state = .confirming ∧ (s.gate t).confirmTimer = some 0) →
      exec (.confirmTimerExpiry t) s = .next s) ∧
    (∀ t, ¬((s.gate t).state = .pressing ∧ (s.gate t).pressTimer = some 0) → exec (.pressTimerExpiry t) s = .next s) ∧
    (∀ t, (s.gate t).guardTimer ≠ some 0 → exec (.guardTimerExpiry t) s = .next s) ∧
    (¬(s.router.chord = .timing ∧ s.router.chordTimer = some 0) → exec .chordTimerExpiry s = .next s) ∧
    (s.cutover.settleTimer ≠ some 0 → exec .monitorSettleExpiry s = .next s) ∧
    ((∀ r, s.cutover.ramp = some r → r.timer ≠ 0) → exec .rampStepExpiry s = .next s) ∧
    (∀ p, (s.port p).audits.secondDue = false → exec (.shownSecondsTick p) s = .next s) ∧
    (¬(s.resetPin.timer = some 0 ∧ s.resetPin.raw = true ∧ s.resetPin.filtered = false) →
      exec .resetPinAsserted s = .next s) ∧
    (¬(s.resetPin.timer = some 0 ∧ s.resetPin.raw = false ∧ s.resetPin.filtered = true) →
      exec .resetPinReleased s = .next s) ∧
    (s.link.preparing ≠ .restart → exec .warmReset s = .next s) ∧
    ((∀ r, s.link.preparing ≠ .response r) → exec .responsePlacement s = .next s)

/-! ### Frames of the selector port (10 R151) -/

/-- The frame of every well-formed command row decodes to that row: no operand bit of an encoding is dropped. -/
def Obligations.FrameRoundTrip : Prop :=
  ∀ (i : Instr) (bytes : List Byte), i.wellFormed = true → encodeFrame i = some bytes → decodeFrame bytes = some i

/-- What decodes to a row is that row's frame, with bytes after its check byte at most, and the row is well formed. -/
def Obligations.DecodedFramesAreSpelled : Prop :=
  ∀ (bytes : List Byte) (i : Instr), decodeFrame bytes = some i →
    i.wellFormed = true ∧ ∃ frame, encodeFrame i = some frame ∧ frame <+: bytes

/-- The tests of 10 R151 on a command transaction's bytes, first to fail first: a length byte above 120; a frame without
its check byte; a wrong check byte; a code that names no command; a length that is not the command's. -/
def Obligations.FrameTestsInOrder : Prop :=
  ∀ (code len : Byte) (body : List Byte), 1 ≤ code.toNat → code.toNat ≤ 0x7F → body.length ≤ 121 →
    judgeFrame (code :: len :: body) =
      if 120 < len.toNat then .badLength
      else if body.length ≤ len.toNat then .checkError
      else if body.getD len.toNat 0 ≠ checkByte (code :: len :: body.take len.toNat) then .checkError
      else
        match Code.ofByte code with
        | none => .unknownCode
        | some c => if c.lengthFits (body.take len.toNat) then .command c (body.take len.toNat) else .badLength

/-! ### Transactions of the selector port -/

/-- A well-formed command row whose transaction began with READY high is its frame taken and judged: slot emptied, READY
low, the command's own checks and effect, and its answer in preparation. -/
def Obligations.CommandsAreTaken : Prop :=
  ∀ (i : Instr) (c : Code) (p : List Byte) (s : State), i.wellFormed = true → i.spell = some (c, p) → Takes s →
    exec i s = .next (takenWith (commandFrame c p) c.byte (commandBody c p) s)

/-- FRAME_ERROR: an erroneous frame is taken, answered by the test it fails with its first byte echoed, and changes nothing
else; bytes that begin with 00H or 81H to FFH, or no byte, are an IGNORED transaction and change nothing. A command or an
erroneous frame that began with READY low sets the overrun mark and does nothing else, by its falling edge or, where that
was not given apart, by READY as it stands (log 7); one made IGNORED by a warm reset does nothing; DROPPED_TRANSACTION is
such an end, whose count of bytes is free (log 10). In each the part shifts out 00H. -/
def Obligations.FrameErrorsAndLostFrames : Prop :=
  (∀ (frame : List Byte) (s : State), Takes s →
     let after (r : Reply) : State :=
       { s with link := prepare (.response (composed (frame.headD 0) r)) (takenLink frame s.link) }
     (takenLink frame s.link).dataOut = List.replicate (frame.length - 1) 0 ∧
     (judgeFrame frame = .badLength → exec (.frameError frame) s = .next (after ⟨.invalid, [2, 0xFF]⟩)) ∧
     (judgeFrame frame = .checkError → exec (.frameError frame) s = .next (after ⟨.checkError, []⟩)) ∧
     (judgeFrame frame = .unknownCode → exec (.frameError frame) s = .next (after ⟨.invalid, [1, 0xFF]⟩))) ∧
  (∀ s : State, s.link.transaction ≠ .fetch →
     let ignored (n : Nat) : State := { s with link := { s.link with transaction := .none, dataOut := List.replicate n 0 } }
     exec (.frameError []) s = .next (ignored 0) ∧
     ∀ (b : Byte) (rest : List Byte), b.toNat = 0 ∨ 0x81 ≤ b.toNat →
       exec (.frameError (b :: rest)) s = .next (ignored rest.length)) ∧
  (∀ (i : Instr) (n : Nat) (s : State),
     ((∃ c p, i.spell = some (c, p) ∧ n = p.length + 2) ∨
       ∃ b rest, i = .frameError (b :: rest) ∧ 1 ≤ b.toNat ∧ b.toNat ≤ 0x7F ∧ n = rest.length) →
     (s.link.transaction = .dropped ∨ s.link.transaction = .none ∧ s.link.ready = false →
       exec i s = .next { s with
         link := { s.link with overrun := true, transaction := .none, dataOut := List.replicate n 0 } }) ∧
     (s.link.transaction = .ignored →
       exec i s = .next { s with link := { s.link with transaction := .none, dataOut := List.replicate n 0 } })) ∧
  (∀ s : State,
     (s.link.transaction = .dropped ∨ s.link.transaction = .none ∧ s.link.ready = false →
       ∃ n k, exec .droppedTransaction s = .next { s with
         link := { s.link with overrun := true, transaction := .none, dataOut := List.replicate n 0 }, freeCount := k }) ∧
     (s.link.transaction = .ignored →
       ∃ n k, exec .droppedTransaction s = .next { s with
         link := { s.link with transaction := .none, dataOut := List.replicate n 0 }, freeCount := k }))

/-- A command answered REFUSED or INVALID changes nothing but the selector port. -/
def Obligations.RefusedCommandsChangeNothing : Prop :=
  ∀ (i : Instr) (s t : State) (r : Response), i.spell.isSome = true → Takes s → exec i s = .next t →
    t.link.preparing = .response r → (r.cls = .refused ∨ r.cls = .invalid) →
    t = { s with link := t.link }

/-- CHIP_SELECT_FALLING_EDGE: READY, as it stands, makes a command transaction COMMAND or DROPPED; the model marks the
transaction so before its first byte (log 7), and opens a new one whatever stood open, the end of an ignored transaction
having no row (log 8). RESPONSE_PLACEMENT: the response takes the overrun mark into its header and enters the slot, the
mark is cleared and READY rises. RESTART is taken in both modes: READY falls, the slot is emptied, and its warm reset waits
for a later event. -/
def Obligations.SelectorPortEvents : Prop :=
  (∀ s : State, exec .chipSelectFallingEdge s = .next { s with
     link := { s.link with transaction := if s.link.ready then .command else .dropped, receive := [] } }) ∧
  (∀ (s : State) (r : Response), s.link.preparing = .response r →
     exec .responsePlacement s = .next { s with
       link := { s.link with
         slot := some { r with overrun := s.link.overrun }
         overrun := false
         ready := true
         preparing := .nothing
         placeTimer := none } }) ∧
  (∀ s : State, Takes s →
     exec .restart s = .next { s with link := prepare .restart (takenLink [0x1F, 0x00, 0x1F] s.link) })

/-- FETCH_START and FETCH_END: a fetch of `n` bytes clocks out the response in the slot and then 00H, or the EMPTY frame when
the slot is empty; it empties the slot exactly when it reaches the check byte, and changes nothing but the selector
port. -/
def Obligations.FetchReturnsTheResponse : Prop :=
  ∀ (s : State) (n : Nat), s.link.transaction ≠ .ignored → s.link.transaction ≠ .fetch →
    ∃ t u, exec .fetchStart s = .next t ∧ exec (.fetchEnd n) t = .next u ∧ u = { s with link := u.link } ∧
      u.link.ready = s.link.ready ∧ u.link.overrun = s.link.overrun ∧ u.link.preparing = s.link.preparing ∧
      u.link.transaction = .none ∧
      (∀ r, s.link.slot = some r →
        (n < r.bytes.length → u.link.dataOut = r.bytes.take n ∧ u.link.slot = some r) ∧
        (r.bytes.length ≤ n →
          u.link.dataOut = r.bytes ++ List.replicate (n - r.bytes.length) 0 ∧ u.link.slot = none)) ∧
      (s.link.slot = none → u.link.dataOut = ([0x06, 0x00, 0x00, 0x06] ++ List.replicate n 0).take n ∧ u.link.slot = none)

/-! ### Power-on and the warm reset (03 R41 to R45) -/

/-- POWER_ON_RESET: the straps are read, and every block has its power-on values, whatever the part did before. The straps are
the command's operands (log 5), the levels of the inputs are kept as they stand (log 6), and so are the model's queue and
its count of free choices (log 1, log 33); what a chute whose input is released captures is the model's choice (log 20). -/
def Obligations.PowerOnReset : Prop :=
  ∀ (ports bands : BitVec 3) (s : State), ∃ t, exec (.powerOnReset ports bands) s = .next t ∧
    t.mode = .setup ∧ t.timeStamp = 0 ∧ t.straps.installed = ports.toNat + 1 ∧
    (∀ p : PortNo,
      (t.port p).state = (if p.val < ports.toNat + 1 then .off else .absent) ∧
      (t.port p).check = decide (p.val < ports.toNat + 1) ∧ (t.port p).profile = none ∧ (t.port p).routes = [] ∧
      (t.port p).missStreak = 0 ∧ (t.port p).restart = false ∧ (t.port p).settleTimer = none ∧
      (t.port p).bootTimer = none ∧ (t.port p).dischargeTimer = none ∧ (t.port p).counters = [] ∧
      (∀ l, slot (t.port p).arbiters l = ⟨none, []⟩) ∧ (∀ m, slot (t.port p).expect m = []) ∧
      (∀ m, slot (t.port p).meterIn m = ⟨(slot (s.port p).meterIn m).active, none⟩) ∧
      (t.port p).lockoutIn = (s.port p).lockoutIn ∧
      (t.port p).monitor = stoppedMonitor (s.port p).monitor.low ∧ (t.port p).audits = zeroAudits) ∧
    (bands = 0 → t.straps.bands = ⟨true, false, false⟩) ∧
    (bands ≠ 0 → t.straps.bands = ⟨bands.getLsbD 0, bands.getLsbD 1, bands.getLsbD 2⟩) ∧
    t.settings = defaultSettings (lowestBand t.straps.bands) ∧
    (∀ a, t.balance a = 0) ∧ t.totalIn = 0 ∧ t.totalOut = 0 ∧ t.cabinet = zeroCabinet ∧
    (∀ i,
      ((s.chute i).held = true →
        t.chute i = ⟨true, .timing, some 0, 20, 150, false, false, some 150, none, none, none, true⟩) ∧
      ((s.chute i).held = false →
        t.chute i = ⟨false, .quiet, none, 20, 150, false, false, none, none, none, none, true⟩)) ∧
    (∀ m, t.meter m = ⟨0, .idle, none, false⟩) ∧ (∀ g, t.gate g = idleGate) ∧ t.servicePending = false ∧
    t.powerQueue = [] ∧ t.recency = [] ∧ t.router = powerOnRouter s.router.raw ∧
    t.resetPin = ⟨s.resetPin.raw, s.resetPin.raw, none⟩ ∧
    t.cutover = ⟨.menu, lowestBand t.straps.bands, false, 0, none, none, none, none⟩ ∧
    t.link = powerOnLink ∧
    t.events = [⟨.powerOn, 0, BitVec.ofNat 16 (ports.toNat + 1), BitVec.ofNat 16 (bandSetCode t.straps.bands), 0⟩] ∧
    t.overflow = false ∧ t.pending = s.pending ∧ t.freeCount = s.freeCount

/-- A warm reset, by the RESET pin or by RESTART, from a state whose ports, gates and arbiters agree, leaves SETUP, RESTARTED
alone in the queue, CHECK set on every installed port with no miss streak, every gate IDLE, nothing running, and the
selector port ready, a command transaction in progress IGNORED and a fetch without its copy; it keeps straps, settings,
profiles, routes, the chutes' measurements, the meters and the time stamp. A busy gate aborts with RESET, its in-flight value
refunded, its orphan pulses counted, its claim and its expectation entry gone (log 14, log 21, log 31), before the lots of the
powered ports are refunded. By the model's reading, the sweep runs in SETUP as
well (log 11), the pin drops an answer still in preparation (log 12), and a transaction whose first byte has not come, which
stands as COMMAND or DROPPED from the falling edge on (log 7), is IGNORED too, were it to be a fetch (log 13). -/
def Obligations.WarmReset : Prop :=
  ∀ (s : State) (i : Instr) (cause : Half), BoardsRight s → FundingRight s →
    (i = .resetPinAsserted ∧ cause = 1 ∧ s.resetPin = ⟨true, false, some 0⟩ ∨
      i = .warmReset ∧ cause = 2 ∧ s.link.preparing = .restart) →
    ∃ t, exec i s = .next t ∧ t.mode = .setup ∧
      t.events = [⟨.restarted, 0, cause, (match s.mode with | .setup => 0 | .run => 1), s.timeStamp⟩] ∧
      t.overflow = false ∧
      (∀ p : PortNo, ((s.port p).state ≠ .absent → (t.port p).check = true) ∧ (t.port p).missStreak = 0 ∧
        (t.port p).restart = false ∧ (t.port p).profile = (s.port p).profile ∧ (t.port p).routes = (s.port p).routes ∧
        (t.port p).state = (match (s.port p).state with
          | .absent => .absent
          | .off | .queued => .off
          | .powering | .booting | .parked | .live | .stopping => .stopping)) ∧
      t.powerQueue = [] ∧ t.recency = [] ∧ (∀ g, (t.gate g).state = .idle ∧ (t.gate g).guardTimer = none) ∧
      t.servicePending = false ∧ (∀ a, (t.chute a).coil = true) ∧
      t.cutover = ⟨.menu, s.settings.menuBand, false, s.settings.menuTrim, none, none, none, none⟩ ∧
      t.router = { s.router with routed := none, marks := Vector.replicate 47 false } ∧
      t.link.slot = none ∧ t.link.ready = true ∧ t.link.overrun = false ∧ t.link.preparing = .nothing ∧
      t.link.receive = [] ∧ t.link.fetch = none ∧
      (s.link.transaction = .command ∨ s.link.transaction = .dropped → t.link.transaction = .ignored) ∧
      (s.link.transaction = .none → t.link.transaction = .none) ∧
      t.straps = s.straps ∧ t.settings = s.settings ∧ t.meters = s.meters ∧ t.timeStamp = s.timeStamp ∧
      (∀ a, { t.chute a with coil := false } = { s.chute a with coil := false }) ∧
      let idle := fundingsAborted 3 s
      ∃ u, Swept idle u ∧ (BalancesCapped idle → CountersBounded idle → SweptMoney idle u) ∧
        (∀ p, t.port p = { u.port p with check := (u.port p).check || decide ((s.port p).state ≠ .absent), missStreak := 0 }) ∧
        t.gates = idle.gates ∧ t.accounts = u.accounts ∧ t.totalIn = s.totalIn ∧ t.totalOut = u.totalOut ∧
        t.cabinet = u.cabinet

/-- RAW_INPUT_EDGE: the raw level is taken, and the input's 5 ms filter is started where it then differs from the filtered
level and stopped where it equals it, for a cabinet control and for the RESET pin. RESET_PIN_RELEASED: the filtered level
falls and nothing else happens. -/
def Obligations.RawEdgesAndPinRelease : Prop :=
  (∀ (held : Bool) (s : State),
     (∀ c : Control, exec (.rawInputEdge (.control c) held) s = .next { s with
       router := { s.router with
         raw := setSlot s.router.raw c held
         timers := setSlot s.router.timers c (if held = slot s.router.level c then none else some 5) } }) ∧
     exec (.rawInputEdge .resetPin held) s = .next { s with
       resetPin := { s.resetPin with raw := held, timer := if held = s.resetPin.filtered then none else some 5 } }) ∧
  (∀ s : State, s.resetPin = ⟨false, true, some 0⟩ →
     exec .resetPinReleased s = .next { s with resetPin := ⟨false, false, none⟩ })

/-! ### Modes (03 R40, R43, R44) -/

/-- START RUN in SETUP: RUN, with every coil re-evaluated and DONE answered. The commands the mode forbids, with fields in
range, are refused with NOT RUN in SETUP, and START RUN with NOT SETUP in RUN, and change nothing. -/
def Obligations.StartRunAndModeRefusals : Prop :=
  (∀ s : State, Takes s →
     (s.mode = .setup → exec .startRun s = .next (answered .startRun [] ⟨.done, []⟩ (allCoils { s with mode := .run }))) ∧
     (s.mode = .run → exec .startRun s = .next (answered .startRun [] ⟨.refused, [2]⟩ s))) ∧
  (∀ s : State, Takes s →
     (s.mode = .setup →
       exec .enterSetup s = .next (answered .enterSetup [] ⟨.refused, [1]⟩ s) ∧
       (∀ b m : Byte, b.toNat ≤ 8 → m.toNat ≤ 1 →
         exec (.select b m) s = .next (answered .select [b, m] ⟨.refused, [1]⟩ s)) ∧
       (∀ b : Byte, 1 ≤ b.toNat → b.toNat ≤ 8 →
         exec (.powerUp b) s = .next (answered .powerUp [b] ⟨.refused, [1]⟩ s) ∧
         exec (.powerDown b) s = .next (answered .powerDown [b] ⟨.refused, [1]⟩ s))))

/-- ENTER SETUP in RUN, from a state whose gates and arbiters agree: every busy gate, WAITING, PULSING, CONFIRMING or PRESSING,
aborts with RESET in station order (log 14): line withdrawn or passed on, orphan pulses counted, in-flight value refunded,
expectation entry and claim gone, FUNDING ABORTED posted with that value (log 21), its record cleared (log 31). Then every
running port is STOPPING with its lots refunded and gone, MENU shown, the sequencer's lists empty, every coil asserted; no
arbiter has a holder or a waiting gate; CHECK, miss streaks, settings, profiles and meters kept, and DONE answered. -/
def Obligations.EnterSetup : Prop :=
  ∀ s : State, Takes s → s.mode = .run → FundingRight s →
    ∃ t, exec .enterSetup s = .next t ∧ t.mode = .setup ∧ (∀ i, (t.chute i).coil = true) ∧
      (∀ g, (t.gate g).state = .idle ∧ (t.gate g).inFlight = 0 ∧ (t.gate g).guardTimer = none) ∧
      t.servicePending = false ∧
      t.cutover = ⟨.menu, s.settings.menuBand, false, s.settings.menuTrim, none, none, none, none⟩ ∧
      t.router = { s.router with routed := none, marks := Vector.replicate 47 false } ∧
      (∀ p : PortNo, (t.port p).check = (s.port p).check ∧ (t.port p).missStreak = (s.port p).missStreak ∧
        (t.port p).profile = (s.port p).profile ∧ (t.port p).restart = false ∧
        (t.port p).state = (match (s.port p).state with
          | .absent => .absent
          | .off | .queued => .off
          | .powering | .booting | .parked | .live | .stopping => .stopping) ∧
        ((s.port p).state = .powering ∨ (s.port p).state = .booting ∨ (s.port p).state = .parked ∨
          (s.port p).state = .live → (t.port p).dischargeTimer = some 500 ∧ ∀ c ∈ (t.port p).counters, c.lots = [])) ∧
      t.powerQueue = [] ∧ t.recency = [] ∧ t.settings = s.settings ∧ t.straps = s.straps ∧ t.meters = s.meters ∧
      t.totalIn = s.totalIn ∧ t.timeStamp = s.timeStamp ∧
      t.link = answeredLink .enterSetup [] ⟨.done, []⟩ s.link ∧
      (∀ p l, slot (t.port p).arbiters l = ⟨none, []⟩) ∧
      (ExpectRight s → ∀ p m, slot (t.port p).expect m = []) ∧
      (CreditsRight s → ∀ p, ∀ c ∈ (t.port p).counters, c.claims = []) ∧
      let idle := fundingsAborted 3 s
      ∃ u, Swept idle u ∧ (BalancesCapped idle → CountersBounded idle → SweptMoney idle u) ∧ t = { u with link := t.link }

/-! ### Coins, coils and meters (chapter 1) -/

/-- CHUTE_LEADING_EDGE begins a measurement in QUIET, stops the jam-clear timer in JAMMED, and, a case that cannot come,
changes nothing in TIMING, as a trailing edge in QUIET does not (log 2).
CHUTE_TRAILING_EDGE of a pulse that fails a test: one REJECTED PULSES, and the chute is QUIET with its gap timer and
last-accepted time as they were; in JAMMED it starts the second of release. -/
def Obligations.ChuteEdges : Prop :=
  (∀ (i : ChuteNo) (s : State),
     ((s.chute i).state = .quiet → exec (.chuteLeadingEdge i) s = .next { s with
       chutes := setSlot s.chutes i { s.chute i with
         held := true
         state := .timing
         leadingEdge := some s.timeStamp
         minWidth := s.settings.minWidth
         maxWidth := s.settings.maxWidth
         qualified := true
         gapFailed := (s.chute i).gapTimer.isSome
         maxWidthTimer := some s.settings.maxWidth } }) ∧
     ((s.chute i).state = .jammed → exec (.chuteLeadingEdge i) s = .next { s with
       chutes := setSlot s.chutes i { s.chute i with held := true, jamClearTimer := none } }) ∧
     ((s.chute i).state = .timing → exec (.chuteLeadingEdge i) s = .next s)) ∧
  (∀ (i : ChuteNo) (s : State),
     (∀ start, (s.chute i).state = .timing → (s.chute i).leadingEdge = some start →
       ((s.chute i).qualified = false ∨ (s.chute i).gapFailed = true ∨
         (s.timeStamp - start).toNat < (s.chute i).minWidth ∨ (s.chute i).maxWidth < (s.timeStamp - start).toNat) →
       exec (.chuteTrailingEdge i) s = .next { s with
         chutes := setSlot s.chutes i { s.chute i with
           held := false, state := .quiet, leadingEdge := none, maxWidthTimer := none }
         cabinet := { s.cabinet with rejected := min (s.cabinet.rejected + 1) 4294967295 } }) ∧
     ((s.chute i).state = .jammed → exec (.chuteTrailingEdge i) s = .next { s with
       chutes := setSlot s.chutes i { s.chute i with held := false, jamClearTimer := some 1000 } }) ∧
     ((s.chute i).state = .quiet → exec (.chuteTrailingEdge i) s = .next s))

/-- CHUTE_TRAILING_EDGE of a pulse that passes: the chute's value is credited at the cap and counted in full, COIN is posted,
and nothing outside the coin intake, the accounts, the meters and the books changes. The COINS meter takes the increments
that fit below 255 and METER OVERFLOW the rest; a pulse begins when its pending count rises from 0 in IDLE; METER SATURATED
is posted after COIN at the first drop of a fill, and not again while the mark of that fill stands. -/
def Obligations.CoinAccepted : Prop :=
  ∀ (i : ChuteNo) (s : State) (start : Word), (s.chute i).state = .timing → (s.chute i).leadingEdge = some start →
    (s.chute i).qualified = true → (s.chute i).gapFailed = false →
    (s.chute i).minWidth ≤ (s.timeStamp - start).toNat → (s.timeStamp - start).toNat ≤ (s.chute i).maxWidth →
    let v := slot s.settings.chuteValue i
    let a := accountOf s i
    let m := s.meter 0
    let starts : Bool := m.pending == 0 && m.phase == .idle && decide (0 < v)
    ∃ t, exec (.chuteTrailingEdge i) s = .next t ∧
      t.accounts = setSlot s.accounts a (if s.balance a + v * 60 ≤ 15000 then s.balance a + v * 60 else 15000) ∧
      t.totalIn = min (s.totalIn + if s.balance a + v * 60 ≤ 15000 then v * 60 else 15000 - s.balance a) 4294967295 ∧
      t.totalOut = s.totalOut ∧
      t.cabinet.overflowTicks =
        min (s.cabinet.overflowTicks + (if s.balance a + v * 60 ≤ 15000 then 0 else s.balance a + v * 60 - 15000))
          4294967295 ∧
      slot t.cabinet.coins i = min (slot s.cabinet.coins i + 1) 4294967295 ∧
      slot t.cabinet.units i = min (slot s.cabinet.units i + v) 4294967295 ∧
      t.cabinet.rejected = s.cabinet.rejected ∧ t.cabinet.jams = s.cabinet.jams ∧
      t.meter 0 = {
        pending := if m.pending + v ≤ 255 then m.pending + v else 255
        phase := if starts then .on else m.phase
        timer := if starts then some s.settings.meterOn else m.timer
        reported := m.reported || decide (255 < m.pending + v) } ∧
      slot t.cabinet.meterOverflow 0 = min (slot s.cabinet.meterOverflow 0 + (m.pending + v - 255)) 4294967295 ∧
      slot t.cabinet.meterOverflow 1 = slot s.cabinet.meterOverflow 1 ∧
      t.meter 1 = s.meter 1 ∧
      (s.events.length < 32 → t.events.take (s.events.length + 1) = s.events ++
        [⟨.coin, BitVec.ofNat 8 (i.val + 1), BitVec.ofNat 16 (256 * v + (a.val + 1)),
          BitVec.ofNat 16 (t.balance a), s.timeStamp⟩]) ∧
      (s.events.length < 31 → t.events.drop (s.events.length + 1) =
        if 255 < m.pending + v ∧ m.reported = false then [⟨.meterSaturated, 1, 0, 0, s.timeStamp⟩] else []) ∧
      { t.chute i with coil := false } = { s.chute i with
        held := false
        state := .quiet
        leadingEdge := none
        maxWidthTimer := none
        gapTimer := some s.settings.minGap
        lastAccepted := some s.timeStamp
        coil := false } ∧
      (∀ j, j ≠ i → { t.chute j with coil := false } = { s.chute j with coil := false }) ∧
      t.ports = s.ports ∧ t.gates = s.gates ∧ t.router = s.router ∧ t.cutover = s.cutover ∧ t.link = s.link ∧
      t.settings = s.settings ∧ t.mode = s.mode ∧ t.timeStamp = s.timeStamp ∧ t.powerQueue = s.powerQueue ∧
      t.recency = s.recency ∧ t.servicePending = s.servicePending ∧ t.resetPin = s.resetPin ∧ t.straps = s.straps

/-- MAX_WIDTH_EXPIRY, GAP_TIMER_EXPIRY and JAM_CLEAR_EXPIRY: a jam is flagged, counted, reported and closes its coil; the gap
timer stops; a cleared jam is reported and its coil re-evaluated. No other chute changes. -/
def Obligations.ChuteExpiries : Prop :=
  ∀ (i : ChuteNo) (s : State),
    ((s.chute i).state = .timing → (s.chute i).maxWidthTimer = some 0 →
      ∃ t, exec (.maxWidthExpiry i) s = .next t ∧
        t = { post .chuteJam (i.val + 1) 0 0 s with
          chutes := setSlot s.chutes i { s.chute i with
            state := .jammed, leadingEdge := none, maxWidthTimer := none, coil := true }
          cabinet := { s.cabinet with jams := min (s.cabinet.jams + 1) 4294967295 } }) ∧
    ((s.chute i).gapTimer = some 0 → exec (.gapTimerExpiry i) s = .next { s with
      chutes := setSlot s.chutes i { s.chute i with gapTimer := none } }) ∧
    ((s.chute i).state = .jammed → (s.chute i).jamClearTimer = some 0 →
      exec (.jamClearExpiry i) s = .next { post .chuteClear (i.val + 1) 0 0 s with
        chutes := setSlot s.chutes i { s.chute i with
          state := .quiet
          jamClearTimer := none
          coil := s.mode == .setup || !slot s.settings.chuteEnabled i || overThreshold s i } })

/-- METER_ON_EXPIRY and METER_OFF_EXPIRY: ON gives way to OFF for the off time in force; the end of OFF counts the pulse and
starts the next, or the meter is IDLE with its saturation mark clear. Nothing else changes. -/
def Obligations.MeterPhases : Prop :=
  ∀ (m : MeterNo) (s : State), (s.meter m).timer = some 0 →
    ((s.meter m).phase = .on → exec (.meterOnExpiry m) s = .next { s with
      meters := setSlot s.meters m { s.meter m with phase := .off, timer := some s.settings.meterOff } }) ∧
    ((s.meter m).phase = .off → 1 < (s.meter m).pending → exec (.meterOffExpiry m) s = .next { s with
      meters := setSlot s.meters m { s.meter m with
        pending := (s.meter m).pending - 1, phase := .on, timer := some s.settings.meterOn } }) ∧
    ((s.meter m).phase = .off → (s.meter m).pending ≤ 1 → exec (.meterOffExpiry m) s = .next { s with
      meters := setSlot s.meters m ⟨0, .idle, none, false⟩ })

/-! ### The account commands (chapter 2) -/

/-- READ ACCOUNTS is taken in both modes, changes nothing but the selector port, and answers DONE with the account mode and
each account's ticks, whole units and remainder; in SHARED mode, where accounts 2 to 4 stay empty, they read 0. -/
def Obligations.ReadAccounts : Prop :=
  ∀ s : State, Takes s →
    let quad (a : AccountNo) : List Byte :=
      be16 (s.balance a) ++ [byte (s.balance a / 60), byte (s.balance a % 60)]
    exec .readAccounts s = .next (answered .readAccounts []
      ⟨.done, (match s.settings.accountMode with | .shared => 0 | .perStation => 1) ::
        (quad 0 ++ quad 1 ++ quad 2 ++ quad 3)⟩ s) ∧
    (SharedRight s → s.settings.accountMode = .shared → ∀ a, a ≠ 0 → quad a = [0, 0, 0, 0])

/-- LOAD ACCOUNT (02 R25): in SETUP the account takes the new balance, TOTAL OUT the old one and TOTAL IN the new one, the
coils that look at the account are re-evaluated, and nothing else changes. An account outside 1 to 4, or 2 to 4 while the
account mode is SHARED, or a balance above 15,000 is INVALID at its field's offset, and in RUN the command is refused with
NOT SETUP; those change nothing. -/
def Obligations.LoadAccount : Prop :=
  ∀ (x : Half) (s : State), Takes s →
    let payload (b : Byte) : List Byte := [b, x.extractLsb' 8 8, x.extractLsb' 0 8]
    (∀ b : Byte, b.toNat = 0 ∨ 4 < b.toNat →
      exec (.loadAccount b x) s = .next (answered .loadAccount (payload b) ⟨.invalid, [3, 0]⟩ s)) ∧
    (∀ a : AccountNo,
      let b : Byte := BitVec.ofNat 8 (a.val + 1)
      (s.mode = .setup → x.toNat ≤ 15000 → (s.settings.accountMode = .shared → a = 0) →
        ∃ t, exec (.loadAccount b x) s = .next t ∧
          t = { s with
            accounts := setSlot s.accounts a x.toNat
            totalOut := min (s.totalOut + s.balance a) 4294967295
            totalIn := min (s.totalIn + x.toNat) 4294967295
            chutes := t.chutes
            link := answeredLink .loadAccount (payload b)
              ⟨.done, b :: (be16 (s.balance a) ++ be16 x.toNat)⟩ s.link } ∧
          (∀ i, t.chute i = { s.chute i with
            coil := if accountOf s i = a then coilWanted t i else (s.chute i).coil })) ∧
      (s.mode = .run → x.toNat ≤ 15000 → (s.settings.accountMode = .shared → a = 0) →
        exec (.loadAccount b x) s = .next (answered .loadAccount (payload b) ⟨.refused, [2]⟩ s)) ∧
      (s.settings.accountMode = .shared → a ≠ 0 →
        exec (.loadAccount b x) s = .next (answered .loadAccount (payload b) ⟨.invalid, [3, 0]⟩ s)) ∧
      ((s.settings.accountMode = .shared → a = 0) → 15000 < x.toNat →
        exec (.loadAccount b x) s = .next (answered .loadAccount (payload b) ⟨.invalid, [3, 1]⟩ s)))

/-- CLEAR ACCOUNTS: every balance goes to TOTAL OUT and becomes 0, all four coils are re-evaluated, DONE carries the old
balances, and gates, lots and everything else stay. -/
def Obligations.ClearAccounts : Prop :=
  ∀ s : State, Takes s →
    ∃ t, exec .clearAccounts s = .next t ∧
      t = { s with
        accounts := Vector.replicate 4 0
        totalOut := min (s.totalOut + s.balance 0 + s.balance 1 + s.balance 2 + s.balance 3) 4294967295
        chutes := t.chutes
        link := answeredLink .clearAccounts []
          ⟨.done, be16 (s.balance 0) ++ be16 (s.balance 1) ++ be16 (s.balance 2) ++ be16 (s.balance 3)⟩ s.link } ∧
      ∀ i, t.chute i = { s.chute i with coil := coilWanted t i }

/-- Bundle cost and value per credit (02 R28): P × 60 ticks from 60 to 3,600, divided among the k credits without remainder,
each worth 10 to 3,600 ticks; a paid lot carries that value, a lot of free play carries 0, and READ PROFILE reports both
figures, free play or not. READ PROFILE of an installed port without a profile says so and no more, of an ABSENT port it is
refused, and of no port it is INVALID; none of them changes anything but the selector port. -/
def Obligations.BundleFigures : Prop :=
  (∀ pr : Profile, 1 ≤ pr.price → pr.price ≤ 60 → 1 ≤ pr.k → pr.k ≤ 6 →
    bundleCost pr = pr.price * 60 ∧ 60 ≤ bundleCost pr ∧ bundleCost pr ≤ 3600 ∧
    pr.k * valuePerCredit pr = bundleCost pr ∧ 10 ≤ valuePerCredit pr ∧ valuePerCredit pr ≤ 3600 ∧
    (∀ g : Gate, g.kind = .ordinary → (bundleLot pr g).credits = pr.k ∧
      (bundleLot pr g).value = if pr.freePlay then 0 else valuePerCredit pr) ∧
    (∀ (p : PortNo) (s : State), Takes s → (s.port p).state ≠ .absent → (s.port p).profile = some pr →
      exec (.readProfile (BitVec.ofNat 8 (p.val + 1))) s = .next (answered .readProfile [BitVec.ofNat 8 (p.val + 1)]
        ⟨.done, [BitVec.ofNat 8 (p.val + 1), 1] ++ profileBytes pr ++ be16 (bundleCost pr) ++ be16 (valuePerCredit pr)⟩ s))) ∧
  (∀ (p : PortNo) (s : State), Takes s →
    let b : Byte := BitVec.ofNat 8 (p.val + 1)
    ((s.port p).state ≠ .absent → (s.port p).profile = none →
      exec (.readProfile b) s = .next (answered .readProfile [b] ⟨.done, [b, 0]⟩ s)) ∧
    ((s.port p).state = .absent → exec (.readProfile b) s = .next (answered .readProfile [b] ⟨.refused, [3]⟩ s))) ∧
  (∀ (b : Byte) (s : State), Takes s → b.toNat = 0 ∨ 8 < b.toNat →
    exec (.readProfile b) s = .next (answered .readProfile [b] ⟨.invalid, [3, 0]⟩ s))

/-! ### Settings, profiles and routes (chapters 3 and 7) -/

/-- READ CABINET (03 R50) is taken in both modes, changes nothing but the selector port, and answers DONE with every field of
the settings as stored and the strapped bands; every timing field a write stores is at its clamped value. -/
def Obligations.ReadCabinet : Prop :=
  ∀ s : State, Takes s →
    exec .readCabinet s = .next (answered .readCabinet []
      ⟨.done, cabinetBytes s.settings ++
        [byte ((if s.straps.bands.l then 1 else 0) + (if s.straps.bands.m then 2 else 0) +
          (if s.straps.bands.h then 4 else 0))]⟩ s) ∧
    (cabinetBytes s.settings).length = 33 ∧
    ∀ r : List Byte,
      let st := settingsOf r
      clamp 5 100 st.minWidth = st.minWidth ∧ clamp 20 250 st.maxWidth = st.maxWidth ∧
        clamp 10 200 st.minGap = st.minGap ∧ clamp 1 250 st.softCeiling = st.softCeiling ∧
        clamp 20 200 st.meterOn = st.meterOn ∧ clamp 20 200 st.meterOff = st.meterOff ∧
        clamp 1000 5000 st.chordHold = st.chordHold ∧ clamp 0 3000 st.monitorSettle = st.monitorSettle ∧
        clamp 0 15 st.menuTrim = st.menuTrim ∧ clamp 0 500 st.soundRamp = st.soundRamp ∧
        clamp 4 80 st.powerBudget = st.powerBudget

/-- WRITE CABINET: a record is INVALID, at its first structural field out of range, at one of two equal chord controls (which
one is free, log 15), at a menu band that is not strapped, at a max width not above the min width after clamping, or at a
power budget below a present load, in that order, and changes nothing; that the structural fields are blamed in the record's
order, the two chord controls and the menu band's code among them, is the model's reading (log 16). Any other replaces every field at once and answers
DONE; balances move only at a change of account mode, all coils are re-evaluated, the sound level moves only while MENU is
shown with no cutover in flight (and takes the trim also when the write leaves the trim as it was, log 38); a chord that the
write leaves as it was, field by field (log 28), goes on, and any other is tested afresh; chutes' pulses, meters, ports, gates and the rest keep their state. In RUN a change of account mode or power budget is refused. -/
def Obligations.WriteCabinet : Prop :=
  ∀ (r : List Byte) (s : State), Takes s → r.length = 33 →
    let st := settingsOf r
    let changed := st.accountMode ≠ s.settings.accountMode ∨ st.powerBudget ≠ s.settings.powerBudget
    let invalidAt (o : Nat) : State := answered .writeCabinet r ⟨.invalid, [3, byte o]⟩ s
    (∀ o, CabinetFieldBad r o → (∀ o' < o, ¬ CabinetFieldBad r o') → exec (.writeCabinet r) s = .next (invalidAt o)) ∧
    ((∀ o < 33, ¬ CabinetFieldBad r o) →
      (at8 r 21 = at8 r 22 →
        exec (.writeCabinet r) s = .next (invalidAt 21) ∨ exec (.writeCabinet r) s = .next (invalidAt 22)) ∧
      (at8 r 21 ≠ at8 r 22 → ¬ RecordBandStrapped s r → exec (.writeCabinet r) s = .next (invalidAt 27)) ∧
      (at8 r 21 ≠ at8 r 22 → RecordBandStrapped s r → ¬ RecordWidthsRight r →
        exec (.writeCabinet r) s = .next (invalidAt 11)) ∧
      (at8 r 21 ≠ at8 r 22 → RecordBandStrapped s r → RecordWidthsRight r → ¬ RecordBudgetRight s r →
        exec (.writeCabinet r) s = .next (invalidAt 31)) ∧
      (at8 r 21 ≠ at8 r 22 → RecordBandStrapped s r → RecordWidthsRight r → RecordBudgetRight s r →
        (s.mode = .run → changed →
          exec (.writeCabinet r) s = .next (answered .writeCabinet r ⟨.refused, [2]⟩ s)) ∧
        ((s.mode = .run → ¬ changed) →
          ∃ t, exec (.writeCabinet r) s = .next t ∧ t.settings = st ∧
            t.link = answeredLink .writeCabinet r ⟨.done, []⟩ s.link ∧
            (¬ (s.settings.accountMode = .perStation ∧ st.accountMode = .shared) →
              t.accounts = s.accounts ∧ t.totalOut = s.totalOut ∧ t.cabinet = s.cabinet) ∧
            (s.settings.accountMode = .perStation → st.accountMode = .shared →
              let sum := s.balance 0 + s.balance 1 + s.balance 2 + s.balance 3
              t.accounts = #v[min sum 15000, 0, 0, 0] ∧ t.totalOut = min (s.totalOut + (sum - 15000)) 4294967295 ∧
                t.cabinet = { s.cabinet with
                  overflowTicks := min (s.cabinet.overflowTicks + (sum - 15000)) 4294967295 }) ∧
            (∀ i, t.chute i = { s.chute i with coil := coilWanted t i }) ∧
            t.cutover = { s.cutover with
              level := if s.cutover.live = .menu ∧ s.cutover.record = none then st.menuTrim else s.cutover.level } ∧
            (s.settings.chordEnable = true → st.chordEnable = true → s.settings.chordFirst = st.chordFirst →
              s.settings.chordSecond = st.chordSecond → t.router = s.router) ∧
            (¬ (s.settings.chordEnable = true ∧ st.chordEnable = true ∧ s.settings.chordFirst = st.chordFirst ∧
                s.settings.chordSecond = st.chordSecond) →
              let begins : Bool := st.chordEnable && slot s.router.level st.chordFirst && slot s.router.level st.chordSecond
              t.router.chord = (if begins then .timing else .idle) ∧
                t.router.chordTimer = if begins then some st.chordHold else none) ∧
            t.router.level = s.router.level ∧ t.router.routed = s.router.routed ∧ t.router.marks = s.router.marks ∧
            t.totalIn = s.totalIn ∧ t.meters = s.meters ∧ t.ports = s.ports ∧ t.gates = s.gates ∧ t.mode = s.mode ∧
            t.events = s.events ∧ t.overflow = s.overflow ∧ t.powerQueue = s.powerQueue ∧ t.recency = s.recency ∧
            t.timeStamp = s.timeStamp ∧ t.straps = s.straps ∧ t.servicePending = s.servicePending)))

/-- Settings, and a profile, in their ranges come back unchanged from their own records: what READ CABINET sends is what WRITE
CABINET stores, and what READ PROFILE sends is what WRITE PROFILE stores. -/
def Obligations.RecordRoundTrips : Prop :=
  (∀ st : Settings,
     (∀ i : ChuteNo, 1 ≤ slot st.chuteValue i ∧ slot st.chuteValue i ≤ 100) →
     5 ≤ st.minWidth → st.minWidth ≤ 100 → 20 ≤ st.maxWidth → st.maxWidth ≤ 250 → 10 ≤ st.minGap → st.minGap ≤ 200 →
     1 ≤ st.softCeiling → st.softCeiling ≤ 250 → 20 ≤ st.meterOn → st.meterOn ≤ 200 → 20 ≤ st.meterOff →
     st.meterOff ≤ 200 → 1000 ≤ st.chordHold → st.chordHold ≤ 5000 → st.monitorSettle ≤ 3000 → st.menuTrim ≤ 15 →
     st.soundRamp ≤ 500 → 4 ≤ st.powerBudget → st.powerBudget ≤ 80 →
     settingsOf (cabinetBytes st) = st) ∧
  (∀ pr : Profile, pr.positions ≤ 4 → pr.c ≤ 9 → pr.k ≤ 6 → pr.price ≤ 60 → pr.perStart ≤ 4 → pr.creditMax ≤ 9 →
     20 ≤ pr.pulseWidth → pr.pulseWidth ≤ 200 → 20 ≤ pr.pulseGap → pr.pulseGap ≤ 500 → 50 ≤ pr.pressWidth →
     pr.pressWidth ≤ 500 → 100 ≤ pr.confirmTimeout → pr.confirmTimeout ≤ 5000 → 100 ≤ pr.lockoutWait →
     pr.lockoutWait ≤ 10000 → pr.playGuard ≤ 600 → 50 ≤ pr.powerSettle → pr.powerSettle ≤ 2000 →
     1 ≤ pr.bootTimeout → pr.bootTimeout ≤ 60 → pr.load ≤ 20 → pr.trim ≤ 15 →
     profileRecord (profileBytes pr) = pr)

/-- WRITE PROFILE and CLEAR PROFILE. A port byte outside 1 to 8 is INVALID for both, and for READ PROFILE. A record with a
field that fails a check, its own or one that joins it with others, is INVALID at such a field (at positions before any
other; where several fail, the order is log 16 and log 15), in every state of the port, and changes nothing. Any other is
taken by an OFF port: the profile replaced whole, with empty counters and the routes that still fit; a clear removes it with
routes and counters; the port alone changes. A port that is not OFF refuses both. -/
def Obligations.ProfileWrites : Prop :=
  (∀ (b : Byte) (r : List Byte) (s : State), Takes s → r.length = 41 → b.toNat = 0 ∨ 8 < b.toNat →
    exec (.writeProfile b r) s = .next (answered .writeProfile (b :: r) ⟨.invalid, [3, 0]⟩ s) ∧
    exec (.readProfile b) s = .next (answered .readProfile [b] ⟨.invalid, [3, 0]⟩ s) ∧
    exec (.clearProfile b) s = .next (answered .clearProfile [b] ⟨.invalid, [3, 0]⟩ s)) ∧
  (∀ (p : PortNo) (r : List Byte) (s : State), Takes s → r.length = 41 →
    let b : Byte := BitVec.ofNat 8 (p.val + 1)
    let pr := profileRecord r
    let fits (x : Route) : Bool := routeFits pr x.line
    (ProfileFieldBad s r 1 → exec (.writeProfile b r) s = .next (answered .writeProfile (b :: r) ⟨.invalid, [3, 1]⟩ s)) ∧
    ((∃ o < 42, ProfileFieldBad s r o) →
      ∃ o, ProfileFieldBad s r o ∧
        exec (.writeProfile b r) s = .next (answered .writeProfile (b :: r) ⟨.invalid, [3, byte o]⟩ s)) ∧
    ((∀ o < 42, ¬ ProfileFieldBad s r o) →
      ((s.port p).state = .off → exec (.writeProfile b r) s = .next (answered .writeProfile (b :: r)
        ⟨.done, [byte ((s.port p).routes.length - ((s.port p).routes.filter fits).length)]⟩
        { s with ports := setSlot s.ports p { s.port p with
          profile := some pr
          counters := List.replicate (counterCount pr) ⟨[], []⟩
          missStreak := 0
          routes := (s.port p).routes.filter fits } })) ∧
      ((s.port p).state = .absent →
        exec (.writeProfile b r) s = .next (answered .writeProfile (b :: r) ⟨.refused, [3]⟩ s)) ∧
      ((s.port p).state ≠ .off → (s.port p).state ≠ .absent →
        exec (.writeProfile b r) s = .next (answered .writeProfile (b :: r) ⟨.refused, [7]⟩ s))) ∧
    ((s.port p).state = .off → exec (.clearProfile b) s = .next (answered .clearProfile [b] ⟨.done, []⟩
      { s with ports := setSlot s.ports p { s.port p with profile := none, routes := [], counters := [] } })) ∧
    ((s.port p).state = .absent → exec (.clearProfile b) s = .next (answered .clearProfile [b] ⟨.refused, [3]⟩ s)) ∧
    ((s.port p).state ≠ .off → (s.port p).state ≠ .absent →
      exec (.clearProfile b) s = .next (answered .clearProfile [b] ⟨.refused, [7]⟩ s)))

/-- WRITE ROUTES and READ ROUTES. A port byte outside 1 to 8 is INVALID for both; a list whose count is 60 or more, or does
not give its length, is INVALID (bad length). A list with a count above 47, a line or a source that does not exist, a START
line, a line twice, or a line the port's profile does not have, is INVALID at such a field (log 15, log 16), in every state
of the port. Any other is stored as given by an OFF port with a profile, which answers its count, and refused by other ports.
READ ROUTES of an installed port answers the entries and the 47 resolved sources, by line: GATE for a START line; the source of
a listed entry; and else the default route: the same control of the station mapped to the line's position, TILT, TEST with
test pass, and ALWAYS RELEASED for an unmapped position, one above positions, SERVICE, and TEST without test pass. -/
def Obligations.RouteCommands : Prop :=
  (∀ (b n : Byte) (es : List Byte) (s : State), Takes s →
    (60 ≤ n.toNat ∨ es.length ≠ 2 * n.toNat →
      exec (.writeRoutes b n es) s = .next (answered .writeRoutes (b :: n :: es) ⟨.invalid, [2, 0xFF]⟩ s)) ∧
    (b.toNat = 0 ∨ 8 < b.toNat →
      (n.toNat < 60 → es.length = 2 * n.toNat →
        exec (.writeRoutes b n es) s = .next (answered .writeRoutes (b :: n :: es) ⟨.invalid, [3, 0]⟩ s)) ∧
      exec (.readRoutes b) s = .next (answered .readRoutes [b] ⟨.invalid, [3, 0]⟩ s))) ∧
  (∀ (p : PortNo) (n : Byte) (es : List Byte) (s : State), Takes s →
    let b : Byte := BitVec.ofNat 8 (p.val + 1)
    let refusedWith (x : Byte) : State := answered .writeRoutes (b :: n :: es) ⟨.refused, [x]⟩ s
    (n.toNat < 60 → es.length = 2 * n.toNat →
      ((∃ o < 122, RouteFieldBad (s.port p) n es o) →
        ∃ o, RouteFieldBad (s.port p) n es o ∧
          exec (.writeRoutes b n es) s = .next (answered .writeRoutes (b :: n :: es) ⟨.invalid, [3, byte o]⟩ s)) ∧
      ((∀ o < 122, ¬ RouteFieldBad (s.port p) n es o) →
        ((s.port p).state = .off → (s.port p).profile ≠ none →
          ∃ routes : List Route, routes.flatMap routeBytes = es ∧ routes.length = n.toNat ∧
            exec (.writeRoutes b n es) s = .next (answered .writeRoutes (b :: n :: es) ⟨.done, [n]⟩
              { s with ports := setSlot s.ports p { s.port p with routes := routes } })) ∧
        ((s.port p).state = .absent → exec (.writeRoutes b n es) s = .next (refusedWith 3)) ∧
        ((s.port p).state ≠ .off → (s.port p).state ≠ .absent →
          exec (.writeRoutes b n es) s = .next (refusedWith 7)) ∧
        ((s.port p).state = .off → (s.port p).profile = none →
          exec (.writeRoutes b n es) s = .next (refusedWith 4)))) ∧
    ((s.port p).state ≠ .absent → exec (.readRoutes b) s = .next (answered .readRoutes [b]
      ⟨.done, [b, byte (s.port p).routes.length] ++ (s.port p).routes.flatMap routeBytes ++
        (List.finRange 47).map fun l => byte (resolve (s.port p) l).code⟩ s)) ∧
    ((s.port p).state = .absent →
      exec (.readRoutes b) s = .next (answered .readRoutes [b] ⟨.refused, [3]⟩ s))) ∧
  (∀ pt : Port, LinesRouted pt) ∧
  (∀ c : Control, (Resolved.source (.control c)).code = c.val) ∧ (Resolved.source .alwaysReleased).code = 0x80 ∧
    (Resolved.source .alwaysHeld).code = 0x81 ∧ Resolved.gate.code = 0x82

/-! ### Board life and the power sequencer (chapter 4) -/

/-- POWER UP. A port byte outside 1 to 8 is INVALID, and an ABSENT port and one with no profile are refused. A port with a profile:
OFF with the queue empty, a slot free and its load within the budget, it enters POWERING at once; OFF behind two POWERING
ports, it waits at the tail; and OFF it joins the tail of the queue in every case, which the sequencer then serves; STOPPING,
it is to be powered again; otherwise nothing changes. ACCEPTED, or DONE for PARKED and LIVE, with the state after. In a state
whose boards agree, a load that does not fit is placed by eviction: the first ports of the walk, no more than it takes, are
stopped with their lots gone and BOARD EVICTED posted for each; and where stopping all of them would not do, none is stopped,
the port stays OFF, and POWER REFUSED is posted, with CUTOVER FAILED (NO POWER) after it for the pending selection, which is
then cleared. -/
def Obligations.PowerUp : Prop :=
  (∀ (b : Byte) (s : State), Takes s → b.toNat = 0 ∨ 8 < b.toNat →
    exec (.powerUp b) s = .next (answered .powerUp [b] ⟨.invalid, [3, 0]⟩ s)) ∧
  (∀ (p : PortNo) (s : State), Takes s → s.mode = .run →
    let b : Byte := BitVec.ofNat 8 (p.val + 1)
    ((s.port p).state = .absent → exec (.powerUp b) s = .next (answered .powerUp [b] ⟨.refused, [3]⟩ s)) ∧
    ((s.port p).state ≠ .absent → (s.port p).profile = none →
      exec (.powerUp b) s = .next (answered .powerUp [b] ⟨.refused, [4]⟩ s))) ∧
  (∀ (p : PortNo) (pr : Profile) (s : State), Takes s → s.mode = .run → (s.port p).state ≠ .absent →
    (s.port p).profile = some pr →
    let b : Byte := BitVec.ofNat 8 (p.val + 1)
    ((s.port p).state = .off → ∃ t, Served { s with
        ports := setSlot s.ports p { s.port p with state := .queued }, powerQueue := s.powerQueue ++ [p] } t ∧
      exec (.powerUp b) s = .next (answered .powerUp [b] ⟨.accepted, [byte (t.port p).state.code]⟩ t)) ∧
    ((s.port p).state = .off → s.powerQueue = [] → poweringCount s < 2 →
      runningLoad s + pr.load ≤ s.settings.powerBudget →
      exec (.powerUp b) s = .next (answered .powerUp [b] ⟨.accepted, [3]⟩
        { s with ports := setSlot s.ports p { s.port p with state := .powering, settleTimer := some pr.powerSettle } })) ∧
    ((s.port p).state = .off → 2 ≤ poweringCount s →
      exec (.powerUp b) s = .next (answered .powerUp [b] ⟨.accepted, [2]⟩
        { s with
          ports := setSlot s.ports p { s.port p with state := .queued }
          powerQueue := s.powerQueue ++ [p] })) ∧
    ((s.port p).state = .stopping → exec (.powerUp b) s = .next (answered .powerUp [b] ⟨.accepted, [7]⟩
      { s with ports := setSlot s.ports p { s.port p with restart := true } })) ∧
    ((s.port p).state = .queued ∨ (s.port p).state = .powering ∨ (s.port p).state = .booting →
      exec (.powerUp b) s = .next (answered .powerUp [b] ⟨.accepted, [byte (s.port p).state.code]⟩ s)) ∧
    ((s.port p).state = .parked ∨ (s.port p).state = .live →
      exec (.powerUp b) s = .next (answered .powerUp [b] ⟨.done, [byte (s.port p).state.code]⟩ s)) ∧
    (BoardsRight s → (s.port p).state = .off → s.powerQueue = [] → poweringCount s < 2 →
      (s.settings.powerBudget + loadFreed s (evictees s).length < runningLoad s + pr.load →
        let refused := post .powerRefused (p.val + 1) pr.load (runningLoad s) s
        (s.cutover.pendingSel ≠ some (.port p) →
          exec (.powerUp b) s = .next (answered .powerUp [b] ⟨.accepted, [1]⟩ refused)) ∧
        (s.cutover.pendingSel = some (.port p) →
          exec (.powerUp b) s = .next (answered .powerUp [b] ⟨.accepted, [1]⟩
            { post .cutoverFailed (p.val + 1) 3 0 refused with cutover := { s.cutover with pendingSel := none } }))) ∧
      (s.settings.powerBudget < runningLoad s + pr.load →
        runningLoad s + pr.load ≤ s.settings.powerBudget + loadFreed s (evictees s).length →
        ∃ t k, exec (.powerUp b) s = .next t ∧ k ≤ (evictees s).length ∧
          runningLoad s + pr.load ≤ s.settings.powerBudget + loadFreed s k ∧
          (∀ j < k, s.settings.powerBudget + loadFreed s j < runningLoad s + pr.load) ∧
          let gone := (evictees s).take k
          t.port p = { s.port p with state := .powering, settleTimer := some pr.powerSettle } ∧
          (∀ q ∈ gone, (t.port q).state = .stopping ∧ (t.port q).dischargeTimer = some 500 ∧
            (t.port q).check = (s.port q).check ∧ ∀ c ∈ (t.port q).counters, c.lots = []) ∧
          (∀ q, q ≠ p → q ∉ gone → t.port q = s.port q) ∧ t.recency = s.recency.filter (fun q => !gone.contains q) ∧
          t.events = (gone.foldl (fun u q => post .boardEvicted (q.val + 1) (p.val + 1) 0 u) s).events ∧
          t.powerQueue = [] ∧ t.gates = s.gates ∧ t.cutover = s.cutover ∧ t.totalIn = s.totalIn ∧
          t.link = answeredLink .powerUp [b] ⟨.accepted, [3]⟩ s.link)))

/-- POWER DOWN. A port byte outside 1 to 8 is INVALID; an ABSENT port and the LIVE one are refused. OFF, nothing; STOPPING, its
restart is called off; QUEUED, out of the queue into OFF, the ports behind it in their order; POWERING, BOOTING or PARKED, it
enters STOPPING with no event posted and its lots refunded and gone. In each of these states a pending selection of the port
is cleared with CUTOVER FAILED (STOPPED). Where a QUEUED port goes or a POWERING one frees its slot, the sequencer then serves
the queue (log 36). A PARKED port that is the target of the cutover in flight, before SHOW, is a target lost: CUTOVER FAILED
(TARGET LOST), and the cutover goes on to MENU, in HOLD, or in BAND from MUTE on. Nothing else changes. -/
def Obligations.PowerDown : Prop :=
  (∀ (b : Byte) (s : State), Takes s → b.toNat = 0 ∨ 8 < b.toNat →
    exec (.powerDown b) s = .next (answered .powerDown [b] ⟨.invalid, [3, 0]⟩ s)) ∧
  (∀ (p : PortNo) (s : State), Takes s → s.mode = .run →
    let b : Byte := BitVec.ofNat 8 (p.val + 1)
    let down (x : Byte) (t : State) : State := answered .powerDown [b] ⟨.done, [x]⟩ t
    ((s.port p).state = .absent → exec (.powerDown b) s = .next (answered .powerDown [b] ⟨.refused, [3]⟩ s)) ∧
    ((s.port p).state = .live → exec (.powerDown b) s = .next (answered .powerDown [b] ⟨.refused, [6]⟩ s)) ∧
    ((s.port p).state = .off → exec (.powerDown b) s = .next (down 1 (selectionFailed p 5 s))) ∧
    ((s.port p).state = .stopping → exec (.powerDown b) s = .next (down 7 (selectionFailed p 5
      { s with ports := setSlot s.ports p { s.port p with restart := false } }))) ∧
    ((s.port p).state = .queued →
      let gone : State := { s with
        ports := setSlot s.ports p { s.port p with state := .off }, powerQueue := s.powerQueue.filter (· != p) }
      (s.powerQueue = [p] → exec (.powerDown b) s = .next (down 1 (selectionFailed p 5 gone))) ∧
      ∃ t, Served (selectionFailed p 5 gone) t ∧ exec (.powerDown b) s = .next (down 1 t)) ∧
    ((s.port p).state = .powering → p ∉ s.powerQueue → ∃ u t, PortStopped p s u ∧ Served (selectionFailed p 5 u) t ∧
      (s.powerQueue = [] → t = selectionFailed p 5 u) ∧ exec (.powerDown b) s = .next (down 7 t)) ∧
    ((s.port p).state = .booting → ∃ u, PortStopped p s u ∧
      exec (.powerDown b) s = .next (down 7 (selectionFailed p 5 u))) ∧
    ((s.port p).state = .parked → ∃ u t, PortStopped p s u ∧ exec (.powerDown b) s = .next (down 7 t) ∧
      (isTarget s p = false → t = selectionFailed p 5 u) ∧
      (isTarget s p = true → TargetGone (selectionFailed p 5 u) t)))

/-- SETTLE_TIMER_EXPIRY: BOOTING, with the monitor searching afresh, the boot timer running and BOOTS counted; the sequencer then
serves the queue, whose head takes the freed slot. BOOT_TIMER_EXPIRY: STOPPING with CHECK set, BOOT FAILED posted, and CUTOVER
FAILED (BOOT) after it when the port was the pending selection, which is then cleared. DISCHARGE_TIMER_EXPIRY: OFF; with
restart-requested the port is queued again at the tail, and the sequencer serves the queue: with a slot free and its load
within the budget it is powered at once, behind two POWERING ports it waits, and where not even eviction makes room it is
refused. What serving changes, in a state whose recency list holds no port twice, is the heads that are powered or refused and
the ports that are evicted for them. -/
def Obligations.BoardExpiries : Prop :=
  (∀ (p : PortNo) (pr : Profile) (s : State), (s.port p).state = .powering → (s.port p).settleTimer = some 0 →
     (s.port p).profile = some pr → s.powerQueue = [] →
     exec (.settleTimerExpiry p) s = .next { s with
       ports := setSlot s.ports p { s.port p with
         state := .booting
         settleTimer := none
         bootTimer := some (1000 * pr.bootTimeout)
         monitor := startMonitor (s.port p).monitor
         audits := { (s.port p).audits with boots := min ((s.port p).audits.boots + 1) 4294967295 } } }) ∧
  (∀ (p : PortNo) (pr : Profile) (s : State), (s.port p).state = .powering → (s.port p).settleTimer = some 0 →
     (s.port p).profile = some pr →
     ∃ t, exec (.settleTimerExpiry p) s = .next t ∧ Served { s with
       ports := setSlot s.ports p { s.port p with
         state := .booting
         settleTimer := none
         bootTimer := some (1000 * pr.bootTimeout)
         monitor := startMonitor (s.port p).monitor
         audits := { (s.port p).audits with boots := min ((s.port p).audits.boots + 1) 4294967295 } } } t) ∧
  (∀ (p : PortNo) (pr : Profile) (s : State), (s.port p).state = .booting → (s.port p).bootTimer = some 0 →
     (s.port p).profile = some pr →
     ∃ t, exec (.bootTimerExpiry p) s = .next t ∧ (t.port p).state = .stopping ∧ (t.port p).check = true ∧
       (t.port p).dischargeTimer = some 500 ∧ (t.port p).monitor.state = .stopped ∧
       (t.port p).missStreak = (s.port p).missStreak ∧ (∀ q, q ≠ p → t.port q = s.port q) ∧
       t.gates = s.gates ∧ t.powerQueue = s.powerQueue ∧ t.timeStamp = s.timeStamp ∧ t.totalIn = s.totalIn ∧
       (s.cutover.pendingSel ≠ some (.port p) → t.cutover = s.cutover ∧
         t.events = (post .bootFailed (p.val + 1) pr.bootTimeout 0 s).events) ∧
       (s.cutover.pendingSel = some (.port p) → t.cutover = { s.cutover with pendingSel := none } ∧
         t.events = (post .cutoverFailed (p.val + 1) 4 0 (post .bootFailed (p.val + 1) pr.bootTimeout 0 s)).events)) ∧
  (∀ (p : PortNo) (s : State), (s.port p).state = .stopping → (s.port p).dischargeTimer = some 0 →
     ((s.port p).restart = false → exec (.dischargeTimerExpiry p) s = .next { s with
       ports := setSlot s.ports p { s.port p with state := .off, dischargeTimer := none } }) ∧
     (∀ pr, (s.port p).restart = true → (s.port p).profile = some pr → s.powerQueue = [] → poweringCount s < 2 →
       runningLoad s + pr.load ≤ s.settings.powerBudget →
       exec (.dischargeTimerExpiry p) s = .next { s with
         ports := setSlot s.ports p { s.port p with
           state := .powering, dischargeTimer := none, restart := false, settleTimer := some pr.powerSettle } }) ∧
     ((s.port p).restart = true →
       let ended : Port := { s.port p with dischargeTimer := none, restart := false }
       let again : State := { s with
         ports := setSlot s.ports p { ended with state := .queued }, powerQueue := s.powerQueue ++ [p] }
       (∃ t, exec (.dischargeTimerExpiry p) s = .next t ∧ Served again t) ∧
       (2 ≤ poweringCount s → exec (.dischargeTimerExpiry p) s = .next again) ∧
       (s.powerQueue = [] → poweringCount s < 2 → s.recency.Nodup →
         s.settings.powerBudget + loadFreed s (evictees s).length < runningLoad s + loadOf (s.port p) →
         exec (.dischargeTimerExpiry p) s = .next (selectionFailed p 3
           (post .powerRefused (p.val + 1) (loadOf (s.port p)) (runningLoad s)
             { s with ports := setSlot s.ports p { ended with state := .off } })))))

/-! ### The sync monitors (chapter 5) -/

/-- SYNC_FALLING_EDGE of a running monitor opens a pulse and restarts the last-edge timer; SYNC_RISING_EDGE with the
waiting-for-release mark clears it and classifies nothing; edges of a stopped monitor are not taken, and leave the level of
its input (log 6, log 24). A horizontal pulse, by its width against a quarter of the estimate or against 128 units, raises H
by 1, its leading edge the first or the seventeenth edge of an open frame where those are still wanted, and does nothing else
while H stays below 1,000; at 1,000 it makes an OVERLONG frame, which drops the frame, the previous frame and the run of
SEARCHING, and in LOCKED counts as a bad frame. A vertical pulse with H below 100 does nothing. -/
def Obligations.SyncEdges : Prop :=
  (∀ (p : PortNo) (u : Word) (s : State),
     let m := (s.port p).monitor
     let withMonitor (m' : Monitor) : State := { s with ports := setSlot s.ports p { s.port p with monitor := m' } }
     (m.state ≠ .stopped → exec (.syncFallingEdge p u) s = .next (withMonitor
       { m with low := true, unitCount := u, pulse := some u, lastEdge := some 250 })) ∧
     (m.state ≠ .stopped → m.pulse = none → exec (.syncRisingEdge p u) s = .next (withMonitor
       { m with low := false, unitCount := u, waitRelease := false, lastEdge := some 250 })) ∧
     (m.state = .stopped → exec (.syncFallingEdge p u) s = .next (withMonitor { m with low := true }) ∧
       exec (.syncRisingEdge p u) s = .next (withMonitor { m with low := false }))) ∧
  (∀ (p : PortNo) (u edge : Word) (s : State),
     let m := (s.port p).monitor
     let withMonitor (m' : Monitor) : State := { s with ports := setSlot s.ports p { s.port p with monitor := m' } }
     let overlong : Monitor :=
       { pulseEnded u m with h := 0, frame := none, previous := none, last := some .overlong }
     m.state ≠ .stopped → m.pulse = some edge →
     ((∀ e, m.estimate = some e → 4 * (u - edge).toNat ≤ e) → (m.estimate = none → (u - edge).toNat ≤ 128) →
       (m.h + 1 < 1000 → exec (.syncRisingEdge p u) s = .next (withMonitor
         { pulseEnded u m with
           h := m.h + 1
           frame := m.frame.map fun fr =>
             if fr.first = none then { fr with first := some edge }
             else if fr.seventeenth = none ∧ m.h + 1 = 17 then { fr with seventeenth := some edge }
             else fr })) ∧
       (1000 ≤ m.h + 1 → m.state = .searching →
         exec (.syncRisingEdge p u) s = .next (withMonitor { overlong with consistency := 0 })) ∧
       (1000 ≤ m.h + 1 → m.state = .locked → m.inconsistency + 1 < 8 →
         exec (.syncRisingEdge p u) s = .next (withMonitor { overlong with inconsistency := m.inconsistency + 1 }))) ∧
     ((∀ e, m.estimate = some e → e < 4 * (u - edge).toNat) → (m.estimate = none → 128 < (u - edge).toNat) → m.h < 100 →
       exec (.syncRisingEdge p u) s = .next (withMonitor (pulseEnded u m))))

/-- The fourth consistent frame locks: a vertical pulse that closes it makes the monitor LOCKED in that frame's band, the port
PARKED at the recency tail with its boot timer stopped, and posts BOARD READY, in one event; no other port changes. A port that
is the pending selection starts its cutover in the same event, after BOARD READY: with a band not strapped it fails with
CUTOVER FAILED (BAND); it waits in HOLD for a busy gate; with the gates idle MUTE begins, where there is sound to bring down;
and while another cutover is in flight and waits, it goes on pending. In LOCKED a vertical pulse closes the open frame and
offers a vertical sync: a good frame takes the inconsistency run back to 0 and its figures become the reported ones; a bad
one, below the eighth in a row, raises the run by 1 and leaves them. -/
def Obligations.LockParksTheBoard : Prop :=
  (∀ (p : PortNo) (u edge first last : Word) (prev : Frame) (b : Band) (s : State),
    let m := (s.port p).monitor
    let lp := (last - first).toNat / 16
    m.state = .searching → m.pulse = some edge → m.consistency = 3 → m.previous = some prev →
    m.frame = some ⟨some first, some last⟩ →
    (∀ e, m.estimate = some e → e < 4 * (u - edge).toNat) → (m.estimate = none → 128 < (u - edge).toNat) →
    200 ≤ m.h → m.h ≤ 700 → bandOf lp = some b → prev.valid = true → prev.band = some b →
    lp ≤ prev.lp + 2 → prev.lp ≤ lp + 2 → m.h ≤ prev.f + 1 → prev.f ≤ m.h + 1 →
    (s.port p).state = .booting → isTarget s p = false →
    ∃ v, (v.port p).monitor.state = .locked ∧
      (v.port p).monitor.frozen = some b ∧ (v.port p).monitor.reported = some ⟨lp, m.h⟩ ∧
      (v.port p).monitor.estimate = some lp ∧ (v.port p).monitor.consistency = 4 ∧
      (v.port p).monitor.inconsistency = 0 ∧ (v.port p).monitor.h = 0 ∧
      v.port p = { s.port p with state := .parked, bootTimer := none, monitor := (v.port p).monitor } ∧
      (∀ q, q ≠ p → v.port q = s.port q) ∧
      v = { post .boardReady (p.val + 1) b.code lp s with ports := v.ports, recency := s.recency ++ [p] } ∧
      let fresh : State := { v with cutover := { s.cutover with pendingSel := none } }
      (s.cutover.pendingSel ≠ some (.port p) → exec (.syncRisingEdge p u) s = .next v) ∧
      (s.cutover.pendingSel = some (.port p) →
        (∀ r, s.cutover.record = some r → CutoverWaits s r → exec (.syncRisingEdge p u) s = .next v) ∧
        (s.cutover.record = none →
          (s.straps.bands.has b = false →
            exec (.syncRisingEdge p u) s = .next (post .cutoverFailed (p.val + 1) 2 b.code fresh)) ∧
          (s.straps.bands.has b = true → gatesQuiet s = false →
            exec (.syncRisingEdge p u) s = .next { fresh with
              cutover := { fresh.cutover with record := some ⟨.hold, s.cutover.live, .port p⟩ } }) ∧
          (s.straps.bands.has b = true → gatesQuiet s = true → s.cutover.level < 15 →
            0 < s.settings.soundRamp / (15 - s.cutover.level) →
            ∃ t, exec (.syncRisingEdge p u) s = .next t ∧ MuteBegun s.cutover.live (.port p) fresh t)))) ∧
  (∀ (p : PortNo) (u edge first last : Word) (s : State),
    let m := (s.port p).monitor
    let lp := min ((last - first).toNat / 16) 65535
    let closed := frameClosed lp (pulseEnded u m)
    let offered (m' : Monitor) : State := offerVsync p { s with ports := setSlot s.ports p { s.port p with monitor := m' } }
    m.state = .locked → m.pulse = some edge → m.frame = some ⟨some first, some last⟩ →
    (∀ e, m.estimate = some e → e < 4 * (u - edge).toNat) → (m.estimate = none → 128 < (u - edge).toNat) → 100 ≤ m.h →
    (GoodFrame m lp m.h →
      exec (.syncRisingEdge p u) s = .next (offered { closed with inconsistency := 0, reported := some ⟨lp, m.h⟩ })) ∧
    (¬ GoodFrame m lp m.h → m.inconsistency + 1 < 8 →
      exec (.syncRisingEdge p u) s = .next (offered { closed with inconsistency := m.inconsistency + 1 })))

/-- LAST_EDGE_TIMER_EXPIRY in SEARCHING restarts the search. A loss, by the last-edge timer or by the eighth bad or OVERLONG
frame in a row, stops the port with its lots refunded, CHECK, LOSSES and BOARD LOST. PARKED: a pending selection of it fails
with TARGET LOST; and as target of a cutover before SHOW it is a target lost: CUTOVER FAILED (TARGET LOST), and the cutover
goes on to MENU, in HOLD, or in BAND from MUTE on, where the lines move and the settle starts anew if the menu band is another
one, and a settle under way is kept if not. LIVE: first every busy gate aborts with STOPPED, in-flight values refunded, orphan
pulses counted, entries and claims gone (log 14, log 21), and guards and routes end; then the blank, level 15, and MENU
selected: with no cutover in flight, or in SHOW with this board as target, whose CUTOVER FAILED (TARGET LOST) comes first, and
with a cutover to MENU, in BAND to MENU at once; with a cutover to a port, MENU becomes the pending selection, and that
cutover goes on, out of HOLD and MUTE into BAND. The pending selection each replaces fails with SUPERSEDED. -/
def Obligations.LastEdgeExpiry : Prop :=
  (∀ (p : PortNo) (s : State),
    let m := (s.port p).monitor
    m.lastEdge = some 0 → m.state = .searching → exec (.lastEdgeTimerExpiry p) s = .next { s with
      ports := setSlot s.ports p { s.port p with
        monitor := { m with
          pulse := none
          estimate := none
          h := 0
          frame := none
          previous := none
          consistency := 0
          waitRelease := m.low
          lastEdge := some 250 } } }) ∧
  (∀ (p : PortNo) (s : State) (c : Instr), LossComes p s c → (s.port p).state = .parked →
    ∃ v t, PortLost p s v ∧ exec c s = .next t ∧
      (isTarget s p = false → t = selectionFailed p 6 v) ∧ (isTarget s p = true → TargetGone (selectionFailed p 6 v) t)) ∧
  (∀ (p : PortNo) (s : State) (c : Instr), LossComes p s c → (s.port p).state = .live → FundingRight s →
    s.cutover.live = .port p →
    ∃ v t, PortLost p (fundingsAborted 2 s) v ∧ exec c s = .next t ∧ GatesEnded t ∧
      let asked : State := if s.cutover.pendingSel = some .menu then v else superseding v
      let muted (u : State) (x : Option Crosspoint) : State :=
        { u with cutover := { s.cutover with blank := true, level := 15, ramp := none, pendingSel := x } }
      let unrouted (u : State) : State :=
        { u with router := { v.router with routed := none, marks := Vector.replicate 47 false } }
      (s.cutover.pendingSel ≠ some .menu → s.straps.bands.has s.settings.menuBand = true →
        (s.cutover.record = none → BandToMenu (.port p) (unrouted (muted (superseding v) none)) t) ∧
        (∀ o, s.cutover.record = some ⟨.shown, o, .port p⟩ →
          BandToMenu (.port p) (unrouted (muted (superseding (post .cutoverFailed (p.val + 1) 6 0 v)) none)) t)) ∧
      (s.cutover.record = some ⟨.hold, .port p, .menu⟩ →
        BandToMenu (.port p) (unrouted (muted (superseding v) none)) t) ∧
      (s.cutover.record = some ⟨.mute, .port p, .menu⟩ → BandToMenu (.port p) (muted (superseding v) none) t) ∧
      (∀ q b, q ≠ p → (s.port q).monitor.frozen = some b →
        (s.cutover.record = some ⟨.hold, .port p, .port q⟩ →
          BandToPort (.port p) q b (unrouted (muted asked (some .menu))) t) ∧
        (s.cutover.record = some ⟨.mute, .port p, .port q⟩ → BandToPort (.port p) q b (muted asked (some .menu)) t)) ∧
      (s.cutover.record = some ⟨.band, .port p, .menu⟩ → s.cutover.settleTimer ≠ none →
        t = muted (superseding v) none) ∧
      (∀ q, s.cutover.record = some ⟨.band, .port p, .port q⟩ ∧ s.cutover.settleTimer ≠ none ∨
        s.cutover.record = some ⟨.align, .port p, .port q⟩ → t = muted asked (some .menu)))

/-! ### The start gates (chapter 6) -/

/-- A press of START, at the end of its debounce, that finds own credits enough on the LIVE port: the gate is PRESSING with the
press timer running, the START line is held, s credits leave the lots, own-account ones first and FREE and SERVICE ones for
the rest, each pool oldest first, what they were worth, summed from the lots' own values (log 29), goes into TOTAL OUT and
TICKS CONSUMED, STARTS and the PLAYS meter count, and START PASSED is posted; no account is touched. A press with no port LIVE does nothing; one in a cutover, of a
station that is not mapped, on a busy gate, or while the guard runs, restarts a running guard, by the LIVE port's play guard
(log 32), and does nothing else: under the guard it is passed through and holds the START line, and otherwise it is not passed,
at no later time either, however long it is held (log 19). A START that is a chord control starts
the exit chord besides, whatever becomes of the press. -/
def Obligations.StartOnOwnCredits : Prop :=
  (∀ (t : Station) (p : PortNo) (pos : Position) (pr : Profile) (s : State), PressDue s (startOf t) →
    livePort s = some p → (s.port p).profile = some pr → s.cutover.record = none → positionOf pr t = some pos →
    (s.gate t).state = .idle → (s.gate t).guardTimer = none →
    let pl := placeOf pr p pos
    let c := counterAt s pl
    let own := min pr.perStart (unclaimedOwn s c t)
    pl.counter < (s.port p).counters.length → pr.perStart ≤ ownCredits s c t → (∀ r ∈ c.claims, r.station ≠ t) →
    let taken : State := { s with
      router := settled s (startOf t)
      gates := setSlot s.gates t { s.gate t with kind := .ordinary, place := some pl } }
    ∃ u ticks, exec (.debouncedChange (startOf t)) s = .next u ∧ Pressed t pl pr ticks taken u ∧
      startLine u p pos = true ∧
      Spent (.account (accountOf s t)) own (pr.perStart - own) c.lots (counterAt u pl).lots ticks ∧
      (s.events.length < 32 → (s.meter 1).pending < 255 →
        u.events = s.events ++ [⟨.startPassed, BitVec.ofNat 8 (p.val + 1), BitVec.ofNat 16 (t.val + 1),
          BitVec.ofNat 16 ticks, s.timeStamp⟩]) ∧
      (counterAt u pl).claims = c.claims ∧ u.accounts = s.accounts ∧ u.totalIn = s.totalIn) ∧
  (∀ (t : Station) (s : State), PressDue s (startOf t) →
    (livePort s = none → exec (.debouncedChange (startOf t)) s = .next { s with router := settled s (startOf t) }) ∧
    (∀ (p : PortNo) (pr : Profile), livePort s = some p → (s.port p).profile = some pr →
      let ignored : State := { s with
        router := settled s (startOf t)
        gates := setSlot s.gates t { s.gate t with
          guardTimer := if (s.gate t).guardTimer.isSome then some (1000 * pr.playGuard) else none } }
      (s.cutover.record ≠ none ∨ positionOf pr t = none ∨ (s.gate t).state ≠ .idle ∨ (s.gate t).guardTimer ≠ none →
        exec (.debouncedChange (startOf t)) s = .next ignored) ∧
      (∀ pos, s.cutover.record = none → positionOf pr t = some pos → (s.gate t).state = .idle →
        (s.gate t).guardTimer ≠ none → startLine ignored p pos = true) ∧
      (s.cutover.record ≠ none ∨ positionOf pr t = none ∨ (s.gate t).state ≠ .idle →
        slot ignored.router.passed t = false ∧
          ∀ (pos : Position) (u : State), slot (profileOf u p).stationMap pos = some t → (u.gate t).state = .idle →
            slot u.router.passed t = false → startLine u p pos = false)))

/-- A press of START with too few own credits, room on the board and the money for it: the account is charged n × P × 60, its
coils re-evaluated, and the gate funds that; with free play nothing is charged and nothing is in flight. A claim record sets
aside the station's unclaimed credits and plans n × k; where the profile names a confirm source, {station, n × c} goes to the
tail of that meter's expectation queue. With the coin line free the gate holds it, and its first pulse is HELD, or, with the
lockout asserted, waits in LOCKOUT HOLD; with the line held the gate is WAITING at the tail of the arbiter's list. TOTAL IN and
TOTAL OUT do not move. With no room, or else with too little money, START REFUSED is posted, with reason 2 or 1 and the charge
(0 with free play), and nothing else changes. A START that is a chord control starts the exit chord besides. -/
def Obligations.StartFunds : Prop :=
  ∀ (t : Station) (p : PortNo) (pos : Position) (pr : Profile) (s : State), PressDue s (startOf t) →
    livePort s = some p → (s.port p).profile = some pr → s.cutover.record = none → positionOf pr t = some pos →
    (s.gate t).state = .idle → (s.gate t).guardTimer = none →
    let pl := placeOf pr p pos
    let c := counterAt s pl
    let own := ownCredits s c t
    let n := (pr.perStart - own + pr.k - 1) / pr.k
    let cost := n * (pr.price * 60)
    let a := accountOf s t
    let line := slot (s.port p).arbiters pl.line
    let audits := (s.port p).audits
    own < pr.perStart →
    (committed c + n * pr.k ≤ pr.creditMax → (pr.freePlay = false → cost ≤ s.balance a) →
      let charged : State :=
        if pr.freePlay then s
        else { s with
          accounts := setSlot s.accounts a (s.balance a - cost)
          ports := setSlot s.ports p { s.port p with
            audits := { audits with ticksCharged := min (audits.ticksCharged + cost) 4294967295 } } }
      let claim : Claim := ⟨t, unclaimedOwn s c t, unclaimedShared c t, n * pr.k⟩
      ∃ u, exec (.debouncedChange (startOf t)) s = .next u ∧
        u = { fundingCommitted t pl pr .ordinary (some a) (if pr.freePlay then 0 else cost) (n * pr.c) claim charged with
          router := settled s (startOf t)
          chutes := u.chutes } ∧
        (∀ i, u.chute i = { s.chute i with
          coil := if pr.freePlay = false ∧ accountOf s i = a then coilWanted u i else (s.chute i).coil }) ∧
        u.totalIn = s.totalIn ∧ u.totalOut = s.totalOut ∧ u.events = s.events ∧
        (line.holder = none → (u.gate t).state = .pulsing ∧ (slot (u.port p).arbiters pl.line).holder = some t ∧
          (lineLockedOut (s.port p) pr pl.line = false → (u.gate t).phase = .held ∧ (u.gate t).begun = 1 ∧
            (u.gate t).phaseTimer = some pr.pulseWidth ∧ coinLine u p pl.line = true) ∧
          (lineLockedOut (s.port p) pr pl.line = true → (u.gate t).phase = .lockoutHold ∧ (u.gate t).begun = 0 ∧
            (u.gate t).lockoutTimer = some pr.lockoutWait)) ∧
        (∀ h, line.holder = some h → (u.gate t).state = .waiting ∧
          slot (u.port p).arbiters pl.line = ⟨some h, line.waiting ++ [t]⟩)) ∧
    (pr.creditMax < committed c + n * pr.k → exec (.debouncedChange (startOf t)) s = .next
      { post .startRefused (p.val + 1) (256 * (t.val + 1) + 2) (if pr.freePlay then 0 else cost) s with
        router := settled s (startOf t) }) ∧
    (committed c + n * pr.k ≤ pr.creditMax → pr.freePlay = false → s.balance a < cost →
      exec (.debouncedChange (startOf t)) s = .next
        { post .startRefused (p.val + 1) (256 * (t.val + 1) + 1) cost s with router := settled s (startOf t) })

/-- END_OF_HELD: the pulse has ended and GAP begins; at a whole multiple of c a bundle is complete. A paid one puts a lot of
the paying account on the counter, takes P × 60 off the gate's in-flight value, moves k of the gate's claim record from
planned to own, and counts in BUNDLES FUNDED; one of free play puts a FREE lot, moves k to shared, and counts there too; a
service credit puts a SERVICE lot, ends the claim record, and counts k in SERVICE CREDITS. The lot made is merged into the
newest lot where source and value agree, and appended as the newest otherwise. Nothing else changes. -/
def Obligations.EndOfHeld : Prop :=
  ∀ (t : Station) (pl : Place) (pr : Profile) (s : State),
    let g := s.gate t
    let pt := s.port pl.port
    let c := counterAt s pl
    let inGap : Gate := { g with phase := .gap, phaseTimer := some pr.pulseGap }
    let completed (inFlight : Nat) (lots : List Lot) (claims : List Claim) (audits : PortAudits) : State := { s with
      gates := setSlot s.gates t { inGap with bundles := g.bundles + 1, inFlight := inFlight }
      ports := setSlot s.ports pl.port { pt with counters := pt.counters.set pl.counter ⟨lots, claims⟩, audits := audits } }
    let funded : PortAudits := { pt.audits with bundlesFunded := min (pt.audits.bundlesFunded + 1) 4294967295 }
    g.state = .pulsing → g.phase = .held → g.phaseTimer = some 0 → g.place = some pl → pt.profile = some pr →
    (g.begun % pr.c ≠ 0 → exec (.endOfHeld t) s = .next { s with gates := setSlot s.gates t inGap }) ∧
    (g.begun % pr.c = 0 → pl.counter < pt.counters.length →
      (g.kind = .ordinary → pr.freePlay = false →
        ∃ lots, LotAdded ⟨.account (g.paying.getD 0), pr.k, pr.price * 60 / pr.k⟩ c.lots lots ∧
          exec (.endOfHeld t) s = .next (completed (g.inFlight - pr.price * 60) lots
            (c.claims.map fun r =>
              if r.station = t then { r with planned := r.planned - pr.k, own := r.own + pr.k } else r) funded)) ∧
      (g.kind = .ordinary → pr.freePlay = true →
        ∃ lots, LotAdded ⟨.free, pr.k, 0⟩ c.lots lots ∧
          exec (.endOfHeld t) s = .next (completed g.inFlight lots
            (c.claims.map fun r =>
              if r.station = t then { r with planned := r.planned - pr.k, shared := r.shared + pr.k } else r) funded)) ∧
      (g.kind = .service →
        ∃ lots, LotAdded ⟨.service, pr.k, 0⟩ c.lots lots ∧
          exec (.endOfHeld t) s = .next (completed g.inFlight lots (c.claims.filter fun r => r.station != t)
            { pt.audits with serviceCredits := min (pt.audits.serviceCredits + pr.k) 4294967295 })))

/-- END_OF_GAP: with pulses left, the next pulse is HELD, unless the profile names a lockout that is asserted: then the gate
holds. With the train sent, the line is free, or goes to the oldest gate waiting for it, whose first pulse is HELD, or holds for
the lockout in the same way; and the gate is CONFIRMING while its entry is not confirmed. With no confirm source, or confirmed
already, an ordinary funding enters PRESSING, its ticks consumed summed from the lots' own values (log 29), and a service
funding with no service pending ends in IDLE, its record cleared (log 31), no guard started, no credit spent and nothing
posted. Nothing else changes. -/
def Obligations.EndOfGap : Prop :=
  ∀ (t : Station) (pl : Place) (pr : Profile) (s : State),
    let g := s.gate t
    g.state = .pulsing → g.phase = .gap → g.phaseTimer = some 0 → g.place = some pl →
    (s.port pl.port).profile = some pr →
    (g.begun < g.planned → lineLockedOut (s.port pl.port) pr pl.line = false → exec (.endOfGap t) s = .next { s with
      gates := setSlot s.gates t { g with
        phase := .held, begun := g.begun + 1, phaseTimer := some pr.pulseWidth, lockoutTimer := none } }) ∧
    (g.begun < g.planned → lineLockedOut (s.port pl.port) pr pl.line = true → exec (.endOfGap t) s = .next { s with
      gates := setSlot s.gates t { g with
        phase := .lockoutHold, phaseTimer := none, lockoutTimer := some pr.lockoutWait } }) ∧
    (g.planned ≤ g.begun → NextInLine s t pl →
      let passed := linePassedOn pl pr s
      (g.entry ≠ none → g.early = false → exec (.endOfGap t) s = .next { passed with
        gates := setSlot passed.gates t { g with
          state := .confirming, phase := .none, phaseTimer := none, confirmTimer := some pr.confirmTimeout } }) ∧
      (g.entry = none ∨ g.early = true →
        (g.kind = .ordinary → pl.counter < (s.port pl.port).counters.length →
          ∃ u ticks, exec (.endOfGap t) s = .next u ∧ Pressed t pl pr ticks passed u) ∧
        (g.kind = .service → s.servicePending = false → HoldWaits s t →
          exec (.endOfGap t) s = .next (backToIdle t passed))))

/-- BOARD_LOCKOUT_RELEASE: the input takes its level; a release lets every gate holding for it begin its pulse, and an output
that a board raises does nothing else (log 6). -/
def Obligations.LockoutEdges : Prop :=
  ∀ (p : PortNo) (o : OutputNo) (s : State),
    let kept := setSlot s.ports p { s.port p with lockoutIn := setSlot (s.port p).lockoutIn o true }
    let freed := setSlot s.ports p { s.port p with lockoutIn := setSlot (s.port p).lockoutIn o false }
    exec (.boardLockoutRelease p o true) s = .next { s with ports := kept } ∧
    ∃ u, exec (.boardLockoutRelease p o false) s = .next u ∧ u = { s with ports := freed, gates := u.gates } ∧
      ∀ t, u.gate t =
        if waitsForLockout s p o t then
          { s.gate t with
            phase := .held
            begun := (s.gate t).begun + 1
            phaseTimer := some (gateProfile s t).pulseWidth
            lockoutTimer := none }
        else s.gate t

/-- LOCKOUT_WAIT_EXPIRY of a gate with no service pending: the gate is IDLE with its record cleared, its place and its
expectation entry with it (log 31), and no guard started; its line is free or passed on to the oldest waiting gate; its
in-flight value is back on the account that paid, up to the cap, and what passes it is lost to OVERFLOW TICKS and TOTAL OUT; its
incomplete pulses are orphans, its claim and its expectation entry are gone, and FUNDING ABORTED (LOCKED OUT) is posted with
that value (log 21); no lot goes, and nothing else changes. -/
def Obligations.LockedOutAborts : Prop :=
  ∀ (t : Station) (pl : Place) (pr : Profile) (s : State),
    let g := s.gate t
    let audits := (s.port pl.port).audits
    let waiting := (slot (s.port pl.port).arbiters pl.line).waiting
    g.state = .pulsing → g.phase = .lockoutHold → g.lockoutTimer = some 0 → g.place = some pl →
    (s.port pl.port).profile = some pr → s.servicePending = false → HoldWaits s t → NextInLine s t pl →
    ∃ u, exec (.lockoutWaitExpiry t) s = .next u ∧ u = fundingAborted 1 t s ∧
      u.gate t = { idleGate with guardTimer := g.guardTimer } ∧
      (u.port pl.port).audits = { audits with
        orphanPulses := min (audits.orphanPulses + (g.begun - g.bundles * pr.c)) 4294967295
        ticksRefunded := if g.inFlight = 0 then audits.ticksRefunded
          else min (audits.ticksRefunded + g.inFlight) 4294967295 } ∧
      (counterAt u pl).lots = (counterAt s pl).lots ∧ (∀ r ∈ (counterAt u pl).claims, r.station ≠ t) ∧
      (∀ m, g.entry = some m → ∀ e ∈ slot (u.port pl.port).expect m, e.station ≠ t) ∧
      slot (u.port pl.port).arbiters pl.line = ⟨waiting.head?, waiting.tail⟩ ∧
      (u.port pl.port).state = (s.port pl.port).state ∧
      u.events = (post .fundingAborted (pl.port.val + 1) (256 * (t.val + 1) + 1) g.inFlight s).events ∧
      u.totalIn = s.totalIn ∧ (∀ g', g' ≠ t → waiting.head? ≠ some g' → u.gate g' = s.gate g') ∧
      (∀ q, q ≠ pl.port → u.port q = s.port q) ∧
      ∀ a, g.paying = some a →
        (s.balance a + g.inFlight ≤ 15000 → u.accounts = setSlot s.accounts a (s.balance a + g.inFlight)) ∧
        (0 < g.inFlight → 15000 < s.balance a + g.inFlight → u.accounts = setSlot s.accounts a 15000 ∧
          u.totalOut = min (s.totalOut + (s.balance a + g.inFlight - 15000)) 4294967295 ∧
          u.cabinet.overflowTicks = min (s.cabinet.overflowTicks + (s.balance a + g.inFlight - 15000)) 4294967295)

/-- METER_OUTPUT_EDGE: an output going active on a LIVE port starts its 10 ms measurement, once for each activation; going
inactive ends it; elsewhere only the level is kept (log 6). BOARD_METER_PULSE: with the queue empty the pulse is stray, counted and
reported; with more than one pulse outstanding at the head, one fewer is; the last one removes the entry, clears the miss
streak, and marks a gate that is still sending; a gate that is CONFIRMING stops its confirm timer and enters PRESSING, its
ticks consumed summed from the lots' own values (log 29), or, for a service funding with no service pending, ends in IDLE with
its record cleared (log 31). -/
def Obligations.BoardMeters : Prop :=
  (∀ (p : PortNo) (m : OutputNo) (s : State),
     let i := slot (s.port p).meterIn m
     let withInput (x : MeterInput) : State :=
       { s with ports := setSlot s.ports p { s.port p with meterIn := setSlot (s.port p).meterIn m x } }
     ((s.port p).state = .live → i.active = false →
       exec (.meterOutputEdge p m true) s = .next (withInput ⟨true, some 10⟩)) ∧
     ((s.port p).state ≠ .live ∨ i.active = true →
       exec (.meterOutputEdge p m true) s = .next (withInput ⟨true, i.timer⟩)) ∧
     exec (.meterOutputEdge p m false) s = .next (withInput ⟨false, none⟩)) ∧
  (∀ (p : PortNo) (m : OutputNo) (s : State), (s.port p).state = .live → (slot (s.port p).meterIn m).timer = some 0 →
     let quiet : Port := { s.port p with meterIn := setSlot (s.port p).meterIn m { slot (s.port p).meterIn m with timer := none } }
     (slot (s.port p).expect m = [] → exec (.boardMeterPulse p m) s = .next { post .strayMeter (p.val + 1) (m.val + 1) 0 s with
       ports := setSlot s.ports p { quiet with
         audits := { quiet.audits with strayPulses := min (quiet.audits.strayPulses + 1) 4294967295 } } }) ∧
     (∀ e rest, slot (s.port p).expect m = e :: rest → 1 < e.outstanding →
       exec (.boardMeterPulse p m) s = .next { s with
         ports := setSlot s.ports p { quiet with
           expect := setSlot quiet.expect m ({ e with outstanding := e.outstanding - 1 } :: rest) } }) ∧
     (∀ e rest, slot (s.port p).expect m = e :: rest → e.outstanding = 1 →
       (s.gate e.station).state = .waiting ∨ (s.gate e.station).state = .pulsing →
       exec (.boardMeterPulse p m) s = .next { s with
         ports := setSlot s.ports p { quiet with expect := setSlot quiet.expect m rest, missStreak := 0 }
         gates := setSlot s.gates e.station { s.gate e.station with early := true } }) ∧
     (∀ e rest pl pr, slot (s.port p).expect m = e :: rest → e.outstanding = 1 →
       let t := e.station
       let counted : State := { s with
         ports := setSlot s.ports p { quiet with expect := setSlot quiet.expect m rest, missStreak := 0 } }
       (s.gate t).state = .confirming → (s.gate t).place = some pl → pl.port = p → (s.port p).profile = some pr →
       ((s.gate t).kind = .ordinary → pl.counter < (s.port p).counters.length →
         ∃ u ticks, exec (.boardMeterPulse p m) s = .next u ∧ Pressed t pl pr ticks counted u) ∧
       ((s.gate t).kind = .service → s.servicePending = false → HoldWaits s t →
         exec (.boardMeterPulse p m) s = .next (backToIdle t counted))))

/-- CONFIRM_TIMER_EXPIRY: the gate's entry goes from its queue, wherever it stands there, the miss is counted, reported with the
pulses outstanding, and added to the streak, whose third sets CHECK and starts it again; and the start of an ordinary funding
is pressed all the same, its ticks consumed summed from the lots' own values (log 29), while a service funding with no service
pending ends in IDLE, its record cleared (log 31), no guard started, no credit spent and nothing else posted. -/
def Obligations.ConfirmMissed : Prop :=
  ∀ (t : Station) (pl : Place) (pr : Profile) (m : OutputNo) (e : Expectation) (s : State),
    let g := s.gate t
    let pt := s.port pl.port
    let queue := slot pt.expect m
    g.state = .confirming → g.confirmTimer = some 0 → g.place = some pl → g.entry = some m →
    pt.profile = some pr → queue.find? (fun x => x.station == t) = some e →
    let missed : State := { post .confirmMissed (pl.port.val + 1) (t.val + 1) e.outstanding s with
      ports := setSlot s.ports pl.port { pt with
        expect := setSlot pt.expect m (queue.filter fun x => x.station != t)
        audits := { pt.audits with confirmMisses := min (pt.audits.confirmMisses + 1) 4294967295 }
        missStreak := if pt.missStreak < 2 then pt.missStreak + 1 else 0
        check := if pt.missStreak < 2 then pt.check else true } }
    (g.kind = .ordinary → pl.counter < pt.counters.length →
      ∃ u ticks, exec (.confirmTimerExpiry t) s = .next u ∧ Pressed t pl pr ticks missed u) ∧
    (g.kind = .service → s.servicePending = false → HoldWaits s t →
      exec (.confirmTimerExpiry t) s = .next (backToIdle t missed))

/-- PRESS_TIMER_EXPIRY: the gate is IDLE with its record cleared, its place and its expectation entry with it (log 31), and the
guard started, unless play guard is 0; the START line is released, a cabinet START still held notwithstanding, and is held
again only by a press that the guard passes through (log 19). A service left pending at gate 1 is served at once, refused with SERVICE REFUSED or
funded. A cutover in HOLD stays there while another gate is busy, and begins MUTE, which ends every guard, once all are IDLE.
GUARD_TIMER_EXPIRY: the guard ends. Nothing else changes. -/
def Obligations.PressAndGuardEnd : Prop :=
  ∀ (t : Station) (s : State),
    let g := s.gate t
    (∀ pl pr, g.state = .pressing → g.pressTimer = some 0 → g.place = some pl → (s.port pl.port).profile = some pr →
      let guard : Timer := if pr.playGuard = 0 then g.guardTimer else some (1000 * pr.playGuard)
      let u : State := { s with gates := setSlot s.gates t { idleGate with guardTimer := guard } }
      (s.servicePending = false →
        ((∀ r, s.cutover.record = some r → r.phase = .hold → ∃ g', g' ≠ t ∧ (s.gate g').state ≠ .idle) →
          exec (.pressTimerExpiry t) s = .next u) ∧
        (slot pr.stationMap pl.position = some t →
          (s.cutover.record = none → startLine u pl.port pl.position =
            (guard.isSome && slot s.router.passed t && slot s.router.level (startOf t) && (s.port pl.port).state == .live)) ∧
          (PassedRight s → g.kind = .ordinary → startLine u pl.port pl.position = false)) ∧
        (∀ o x, s.cutover.record = some ⟨.hold, o, x⟩ → (∀ g', g' ≠ t → (s.gate g').state = .idle) →
          s.cutover.level < 15 → 0 < s.settings.soundRamp / (15 - s.cutover.level) →
          ∃ v, exec (.pressTimerExpiry t) s = .next v ∧ MuteBegun o x u v)) ∧
      (∀ p pr' pos, t = 0 → s.servicePending = true → s.cutover.record = none → livePort s = some p →
        (s.port p).profile = some pr' → positionOf pr' 0 = some pos →
        let place := placeOf pr' p pos
        let c := counterAt s place
        let served : State := { u with servicePending := false }
        (pr'.creditMax < committed c + pr'.k →
          exec (.pressTimerExpiry t) s = .next (post .serviceRefused (p.val + 1) 0 0 served)) ∧
        (committed c + pr'.k ≤ pr'.creditMax → place.counter < (s.port p).counters.length →
          exec (.pressTimerExpiry t) s = .next (serviceFunded p pr' pos served)))) ∧
    (g.guardTimer = some 0 → exec (.guardTimerExpiry t) s = .next { s with
      gates := setSlot s.gates t { g with guardTimer := none } })

/-! ### Control routing (chapter 7) -/

/-- DEBOUNCED_CHANGE: the debounced level takes the raw level and the timer stops, whatever the change sets going. A press of
one chord control while the other is held, with the chord enabled and its detection IDLE, starts TIMING with the chord hold,
and no other press touches the chord. A release clears the input's release-required mark; of a START it ends the pass-through
(log 19); of a chord control it returns the detection to IDLE and stops its timer; and it does nothing else. A press of any other control of a station restarts its
running guard, by the LIVE port's play guard (log 32). A press of TEST posts TEST PRESSED with the live source and whether it
reached a board line. A press of SERVICE is ignored where the rule says so; raises the service-pending flag while gate 1 is
busy; and is served at once while it is IDLE: one bundle funded without a charge, or SERVICE REFUSED with no room for it on
the board. -/
def Obligations.DebouncedLevels : Prop :=
  (∀ (c : Control) (s : State), slot s.router.timers c = some 0 →
    (∃ u, exec (.debouncedChange c) s = .next u ∧
      u.router.level = setSlot s.router.level c (slot s.router.raw c) ∧
      u.router.timers = setSlot s.router.timers c none ∧ u.router.raw = s.router.raw ∧
      u.router.routed = s.router.routed ∧
      u.router.marks = (if slot s.router.raw c then s.router.marks else setSlot s.router.marks c false) ∧
      (PressDue s c → u.router = settled s c) ∧
      u.cutover = s.cutover ∧ u.mode = s.mode ∧ u.settings = s.settings ∧ u.link = s.link) ∧
    (∀ other, PressDue s c → s.settings.chordEnable = true → s.router.chord = .idle → other ≠ c →
      slot s.router.level other = true →
      (s.settings.chordFirst = c ∧ s.settings.chordSecond = other ∨
        s.settings.chordFirst = other ∧ s.settings.chordSecond = c) →
      (settled s c).chord = .timing ∧ (settled s c).chordTimer = some s.settings.chordHold) ∧
    (slot s.router.raw c = false →
      let released : Router := { s.router with
        level := setSlot s.router.level c false
        timers := setSlot s.router.timers c none
        marks := setSlot s.router.marks c false
        passed := startPassed c (fun _ => false) s.router.passed }
      (s.settings.chordFirst ≠ c → s.settings.chordSecond ≠ c →
        exec (.debouncedChange c) s = .next { s with router := released }) ∧
      (s.settings.chordFirst = c ∨ s.settings.chordSecond = c → slot s.router.level c = true →
        exec (.debouncedChange c) s = .next { s with
          router := { released with chord := .idle, chordTimer := none } }))) ∧
  (∀ (t : Station) (i : Fin 11) (p : PortNo) (pr : Profile) (s : State), i.val < 10 → PressDue s (controlOf t i) →
    livePort s = some p → (s.port p).profile = some pr →
    exec (.debouncedChange (controlOf t i)) s = .next { s with
      router := settled s (controlOf t i)
      gates := setSlot s.gates t { s.gate t with
        guardTimer := if (s.gate t).guardTimer.isSome then some (1000 * pr.playGuard) else none } }) ∧
  (∀ s : State, PressDue s 45 →
    let posted (reached : Nat) : State :=
      { post .testPressed 0 (sourceNumber s.cutover.live) reached s with router := settled s 45 }
    (s.router.routed = none ∨ slot s.router.marks 45 = true → exec (.debouncedChange 45) s = .next (posted 0)) ∧
    (∀ p pr, s.router.routed = some p → (s.port p).profile = some pr → slot s.router.marks 45 = false →
      (pr.testPass = true ∨ (∃ r ∈ (s.port p).routes, r.source = .control 45) →
        exec (.debouncedChange 45) s = .next (posted 1)) ∧
      (pr.testPass = false → (∀ r ∈ (s.port p).routes, r.source ≠ .control 45) →
        exec (.debouncedChange 45) s = .next (posted 0)))) ∧
  (∀ s : State, PressDue s 44 →
    (s.settings.serviceEnabled = false ∨ livePort s = none ∨ s.cutover.record ≠ none ∨ s.servicePending = true →
      exec (.debouncedChange 44) s = .next { s with router := settled s 44 }) ∧
    (∀ p pr, livePort s = some p → (s.port p).profile = some pr →
      (positionOf pr 0 = none → exec (.debouncedChange 44) s = .next { s with router := settled s 44 }) ∧
      (∀ pos, s.settings.serviceEnabled = true → s.cutover.record = none → s.servicePending = false →
        positionOf pr 0 = some pos →
        let pl := placeOf pr p pos
        let c := counterAt s pl
        ((s.gate 0).state ≠ .idle →
          exec (.debouncedChange 44) s = .next { s with router := settled s 44, servicePending := true }) ∧
        ((s.gate 0).state = .idle → pr.creditMax < committed c + pr.k →
          exec (.debouncedChange 44) s = .next
            { post .serviceRefused (p.val + 1) 0 0 s with router := settled s 44 }) ∧
        ((s.gate 0).state = .idle → committed c + pr.k ≤ pr.creditMax → pl.counter < (s.port p).counters.length →
          exec (.debouncedChange 44) s = .next (serviceFunded p pr pos { s with router := settled s 44 })))))

/-- A control line apart from START is held exactly when the port has a profile with the line's position and either its source
is ALWAYS HELD and the board runs, or its source is a cabinet control, the port is LIVE and routed, and the physical control
that the rotation puts in its place is held with its release-required mark clear. So it is held only by a running board; from
a cabinet control only on the routed port, LIVE; and on a position the board does not have, never. A START line is held exactly
while the gate of the station mapped there presses it, or, with the port LIVE and no cutover in flight, while the gate is IDLE
under its guard and the cabinet START is held by a press that was passed through (log 19). A line's source is the one of its
listed entry, or else its default route: the same control of the station mapped to its position; TILT; TEST with test pass; and
for every other line ALWAYS RELEASED. The rotation turns the
four directions alone: at 90 UP follows LEFT, RIGHT UP, DOWN RIGHT and LEFT DOWN, and so on. -/
def Obligations.LinesHeldOnlyWhenRunning : Prop :=
  (∀ pt : Port, LinesRouted pt) ∧
  (∀ (s : State) (p : PortNo) (l : Control), isStart l = false → controlLine s p l = true →
    ((s.port p).state = .booting ∨ (s.port p).state = .parked ∨ (s.port p).state = .live) ∧
    (∀ c, resolve (s.port p) l = .source (.control c) → (s.port p).state = .live ∧ s.router.routed = some p) ∧
    (∀ pr pos i, (s.port p).profile = some pr → ofStation l = some (pos, i) → pos.val < pr.positions)) ∧
  (∀ (s : State) (p : PortNo) (l : Control) (pr : Profile), isStart l = false → (s.port p).profile = some pr →
    (∀ pos i, ofStation l = some (pos, i) → pos.val < pr.positions) →
    (resolve (s.port p) l = .source .alwaysHeld → (controlLine s p l = true ↔
      (s.port p).state = .booting ∨ (s.port p).state = .parked ∨ (s.port p).state = .live)) ∧
    (resolve (s.port p) l = .source .alwaysReleased → controlLine s p l = false) ∧
    (∀ c, resolve (s.port p) l = .source (.control c) → (controlLine s p l = true ↔
      (s.port p).state = .live ∧ s.router.routed = some p ∧ slot s.router.level (physical pr.rotation c) = true ∧
        slot s.router.marks (physical pr.rotation c) = false))) ∧
  (∀ (s : State) (p : PortNo) (pos : Position) (pr : Profile), (s.port p).profile = some pr → pos.val < pr.positions →
    (slot pr.stationMap pos = none → controlLine s p (startOf pos) = false) ∧
    (∀ t, slot pr.stationMap pos = some t → (controlLine s p (startOf pos) = true ↔
      ((s.gate t).state = .pressing ∧ ∃ pl, (s.gate t).place = some pl ∧ pl.port = p ∧ pl.position = pos) ∨
      ((s.gate t).state = .idle ∧ (s.gate t).guardTimer ≠ none ∧ slot s.router.passed t = true ∧
        slot s.router.level (startOf t) = true ∧ (s.port p).state = .live ∧ s.cutover.record = none)))) ∧
  (∀ t : Fin 4,
    (physical .r90 (controlOf t 0) = controlOf t 2 ∧ physical .r90 (controlOf t 3) = controlOf t 0 ∧
      physical .r90 (controlOf t 1) = controlOf t 3 ∧ physical .r90 (controlOf t 2) = controlOf t 1) ∧
    (physical .r180 (controlOf t 0) = controlOf t 1 ∧ physical .r180 (controlOf t 3) = controlOf t 2 ∧
      physical .r180 (controlOf t 1) = controlOf t 0 ∧ physical .r180 (controlOf t 2) = controlOf t 3) ∧
    (physical .r270 (controlOf t 0) = controlOf t 3 ∧ physical .r270 (controlOf t 3) = controlOf t 1 ∧
      physical .r270 (controlOf t 1) = controlOf t 2 ∧ physical .r270 (controlOf t 2) = controlOf t 0) ∧
    (∀ (rot : Rotation) (i : Fin 11), 4 ≤ i.val ∨ rot = .r0 → physical rot (controlOf t i) = controlOf t i) ∧
    ∀ (rot : Rotation) (c : Control), 44 ≤ c.val → physical rot c = c)

/-- CHORD_TIMER_EXPIRY: the detection is FIRED and CHORD posted. With MENU live no return is requested and nothing else changes.
With a port live MENU is selected: with MENU the target of the cutover in flight, the pending selection is cleared and fails
with SUPERSEDED; with MENU pending already nothing more happens; with another cutover in flight MENU becomes the pending
selection in place of any other, which fails with SUPERSEDED; and with none in flight the cutover to MENU begins, the pending
selection superseded: in HOLD with a gate busy, and in MUTE at once with every gate IDLE (log 37), where there is sound to
bring down. -/
def Obligations.ChordFires : Prop :=
  ∀ s : State, s.router.chord = .timing → s.router.chordTimer = some 0 →
    let fired : Router := { s.router with chord := .fired, chordTimer := none }
    (s.cutover.live = .menu → exec .chordTimerExpiry s = .next { post .chord 0 0 0 s with router := fired }) ∧
    (∀ p, s.cutover.live = .port p →
      let told : State := { post .chord 0 (p.val + 1) 1 s with router := fired }
      let selecting (x : Option Crosspoint) : State :=
        { superseding told with cutover := { s.cutover with pendingSel := x } }
      (∀ r, s.cutover.record = some r → r.target = .menu → exec .chordTimerExpiry s = .next (selecting none)) ∧
      ((∀ r, s.cutover.record = some r → r.target ≠ .menu) →
        (s.cutover.pendingSel = some .menu → exec .chordTimerExpiry s = .next told) ∧
        (s.cutover.pendingSel ≠ some .menu →
          (s.cutover.record ≠ none → exec .chordTimerExpiry s = .next (selecting (some .menu))) ∧
          (s.cutover.record = none → s.straps.bands.has s.settings.menuBand = true →
            (gatesQuiet s = false → exec .chordTimerExpiry s = .next { selecting none with
              cutover := { s.cutover with pendingSel := none, record := some ⟨.hold, .port p, .menu⟩ } }) ∧
            (gatesQuiet s = true → s.cutover.level < 15 → 0 < s.settings.soundRamp / (15 - s.cutover.level) →
              ∃ t, exec .chordTimerExpiry s = .next t ∧ MuteBegun (.port p) .menu (selecting none) t)))))

/-! ### The cutover (chapter 8) -/

/-- SELECT. A target above 8 is INVALID, and so is a modifier above 1; an ABSENT port and one with no profile are refused. With the
checks passed, MENU or a port that is the live
source with no cutover in flight is answered DONE and changes nothing; the target of the cutover in flight clears the pending
selection, which fails with SUPERSEDED; the pending selection itself changes nothing. Any other target becomes the pending
selection, and what was pending fails with SUPERSEDED. A port is asked for power: an OFF one, with nobody queued, enters
POWERING with a slot free and its load within the budget, waits QUEUED behind two POWERING ports, and is refused, the
selection failing with NO POWER, where even eviction would not do, as the sequencer serves its queue; a STOPPING one is to be powered again; a QUEUED, POWERING
or BOOTING one goes on. With no cutover in flight MENU, on a board, and a PARKED port start their cutover at once: with a band
not strapped a port's fails with BAND and no record is made; it waits in HOLD for a busy gate; with the gates idle MUTE
begins. The clear-check modifier clears CHECK first; without it a port whose CHECK is set is refused. -/
def Obligations.Select : Prop :=
  ∀ s : State, Takes s →
    let chosen (x : Option Crosspoint) (u : State) : State := { u with cutover := { s.cutover with pendingSel := x } }
    let inHold (x : Crosspoint) (u : State) : State :=
      { u with cutover := { s.cutover with pendingSel := none, record := some ⟨.hold, s.cutover.live, x⟩ } }
    let audible : Prop := s.cutover.level < 15 ∧ 0 < s.settings.soundRamp / (15 - s.cutover.level)
    (∀ b m : Byte, 8 < b.toNat → exec (.select b m) s = .next (answered .select [b, m] ⟨.invalid, [3, 0]⟩ s)) ∧
    (∀ b m : Byte, b.toNat ≤ 8 → 1 < m.toNat →
      exec (.select b m) s = .next (answered .select [b, m] ⟨.invalid, [3, 1]⟩ s)) ∧
    (∀ m : Byte, s.mode = .run → m.toNat ≤ 1 →
      let accepted (u : State) : State := answered .select [0, m] ⟨.accepted, [0, 0xFF]⟩ u
      (s.cutover.record = none → s.cutover.live = .menu →
        exec (.select 0 m) s = .next (answered .select [0, m] ⟨.done, [0, 0xFF]⟩ s)) ∧
      (∀ r, s.cutover.record = some r → r.target = .menu →
        exec (.select 0 m) s = .next (accepted (chosen none (superseding s)))) ∧
      ((∀ r, s.cutover.record = some r → r.target ≠ .menu) → (s.cutover.record = none → s.cutover.live ≠ .menu) →
        (s.cutover.pendingSel = some .menu → exec (.select 0 m) s = .next (accepted s)) ∧
        (s.cutover.pendingSel ≠ some .menu →
          (s.cutover.record ≠ none → exec (.select 0 m) s = .next (accepted (chosen (some .menu) (superseding s)))) ∧
          (s.cutover.record = none → s.straps.bands.has s.settings.menuBand = true →
            (gatesQuiet s = false → exec (.select 0 m) s = .next (accepted (inHold .menu (superseding s)))) ∧
            (gatesQuiet s = true → audible → ∃ t, exec (.select 0 m) s = .next (accepted t) ∧
              MuteBegun s.cutover.live .menu (chosen none (superseding s)) t))))) ∧
    (∀ (p : PortNo) (m : Byte), s.mode = .run → m.toNat ≤ 1 →
      let b : Byte := BitVec.ofNat 8 (p.val + 1)
      ((s.port p).state = .absent → exec (.select b m) s = .next (answered .select [b, m] ⟨.refused, [3]⟩ s)) ∧
      ((s.port p).state ≠ .absent → (s.port p).profile = none →
        exec (.select b m) s = .next (answered .select [b, m] ⟨.refused, [4]⟩ s))) ∧
    (∀ (p : PortNo) (pr : Profile) (m : Byte), s.mode = .run → m.toNat ≤ 1 → (s.port p).profile = some pr →
      (s.port p).state ≠ .absent →
      let b : Byte := BitVec.ofNat 8 (p.val + 1)
      let accepted (st : Byte) (u : State) : State := answered .select [b, m] ⟨.accepted, [b, st]⟩ u
      let cleared : State := { s with ports := setSlot s.ports p { s.port p with check := false } }
      let present : Byte := byte (s.port p).state.code
      ((s.port p).check = true → m = 0 →
        exec (.select b m) s = .next (answered .select [b, m] ⟨.refused, [5]⟩ s)) ∧
      (m = 1 ∨ (s.port p).check = false →
        (s.cutover.record = none → s.cutover.live = .port p →
          exec (.select b m) s = .next (answered .select [b, m] ⟨.done, [b, present]⟩ cleared)) ∧
        (∀ r, s.cutover.record = some r → r.target = .port p →
          exec (.select b m) s = .next (accepted present (chosen none (superseding cleared)))) ∧
        ((∀ r, s.cutover.record = some r → r.target ≠ .port p) → (s.cutover.record = none → s.cutover.live ≠ .port p) →
          (s.cutover.pendingSel = some (.port p) → exec (.select b m) s = .next (accepted present cleared)) ∧
          (s.cutover.pendingSel ≠ some (.port p) →
            let waiting : State := chosen (some (.port p)) (superseding cleared)
            let inState (pt : Port) : State := { waiting with ports := setSlot s.ports p { pt with check := false } }
            ((s.port p).state = .queued ∨ (s.port p).state = .powering ∨ (s.port p).state = .booting →
              exec (.select b m) s = .next (accepted present waiting)) ∧
            ((s.port p).state = .stopping →
              exec (.select b m) s = .next (accepted 7 (inState { s.port p with restart := true }))) ∧
            ((s.port p).state = .off →
              (∃ t, Served { inState { s.port p with state := .queued } with powerQueue := s.powerQueue ++ [p] } t ∧
                exec (.select b m) s = .next (accepted (byte (t.port p).state.code) t)) ∧
              (2 ≤ poweringCount s → exec (.select b m) s = .next (accepted 2
                { inState { s.port p with state := .queued } with powerQueue := s.powerQueue ++ [p] })) ∧
              (s.powerQueue = [] → poweringCount s < 2 →
                (runningLoad s + pr.load ≤ s.settings.powerBudget → exec (.select b m) s = .next (accepted 3
                  (inState { s.port p with state := .powering, settleTimer := some pr.powerSettle }))) ∧
                (BoardsRight s → s.settings.powerBudget + loadFreed waiting (evictees waiting).length < runningLoad s + pr.load →
                  exec (.select b m) s = .next (accepted 1 (chosen none (post .cutoverFailed (p.val + 1) 3 0
                    (post .powerRefused (p.val + 1) pr.load (runningLoad s) (superseding cleared)))))))) ∧
            ((s.port p).state = .parked → s.cutover.record ≠ none →
              exec (.select b m) s = .next (accepted 5 waiting)) ∧
            (∀ band, s.cutover.record = none → (s.port p).state = .parked → (s.port p).monitor.frozen = some band →
              (s.straps.bands.has band = false → exec (.select b m) s = .next (accepted 5
                (chosen none (post .cutoverFailed (p.val + 1) 2 band.code (superseding cleared))))) ∧
              (s.straps.bands.has band = true → gatesQuiet s = false →
                exec (.select b m) s = .next (accepted 5 (inHold (.port p) (superseding cleared)))) ∧
              (s.straps.bands.has band = true → gatesQuiet s = true → audible →
                ∃ t, exec (.select b m) s = .next (accepted 5 t) ∧
                  MuteBegun s.cutover.live (.port p) (chosen none (superseding cleared)) t))))))

/-- RAMP_STEP_EXPIRY: the level moves one step; the last step of MUTE is BAND, where the band lines move and the settle
starts when the target's band is another one, and ALIGN at once when it is not, or when the settle is 0; the last step of the
ramp of SHOW completes the cutover with CUTOVER DONE. MONITOR_SETTLE_EXPIRY: BAND gives way to ALIGN for a port, and for MENU
to SHOW in the same event: MENU is the live source, no port is routed, an outgoing board leaves LIVE by its leave action, the
blank is released, and the ramp to the menu trim begins. That a cutover to MENU takes the menu band in force as BAND begins,
and not the one at its start, is the model's choice (log 39). -/
def Obligations.SettleAndRamp : Prop :=
  ∀ s : State,
    (∀ p o, s.cutover.settleTimer = some 0 → s.cutover.record = some ⟨.band, o, .port p⟩ →
      exec .monitorSettleExpiry s = .next { s with
        cutover := { s.cutover with settleTimer := none, record := some ⟨.align, o, .port p⟩ } }) ∧
    (∀ o, s.cutover.settleTimer = some 0 → s.cutover.record = some ⟨.band, o, .menu⟩ →
      0 < rampTime s s.settings.menuTrim ∨ s.cutover.pendingSel = none →
      ∃ t, exec .monitorSettleExpiry s = .next t ∧
        MenuShown o { s with cutover := { s.cutover with settleTimer := none } } t) ∧
    (∀ o, s.cutover.settleTimer = some 0 → s.cutover.record = some ⟨.band, o, .menu⟩ → s.settings.menuTrim < s.cutover.level →
      0 < s.settings.soundRamp / (s.cutover.level - s.settings.menuTrim) →
      let step := s.settings.soundRamp / (s.cutover.level - s.settings.menuTrim)
      ∃ t, exec .monitorSettleExpiry s = .next t ∧
        t.cutover = { s.cutover with
          settleTimer := none
          live := .menu
          blank := false
          ramp := some ⟨s.settings.menuTrim, step, step⟩
          record := some ⟨.shown, o, .menu⟩ } ∧
        t.router = { s.router with routed := none, marks := t.router.marks } ∧ RoutesEnded t ∧
        (gatesQuiet s = true → t.events = s.events) ∧
        (∀ q pr, o = .port q → (s.port q).state = .live → (s.port q).profile = some pr → gatesQuiet s = true →
          LeftLive q pr.leave t.recency s t ∧ ∀ x, x ≠ q → t.port x = s.port x) ∧
        ((∀ q, o = .port q → (s.port q).state ≠ .live) → t.ports = s.ports ∧ t.recency = s.recency)) ∧
    (∀ r, s.cutover.ramp = some r → r.timer = 0 → s.cutover.level + 1 < r.target →
      exec .rampStepExpiry s = .next { s with
        cutover := { s.cutover with level := s.cutover.level + 1, ramp := some { r with timer := r.interval } } }) ∧
    (∀ r, s.cutover.ramp = some r → r.timer = 0 → r.target + 1 < s.cutover.level →
      exec .rampStepExpiry s = .next { s with
        cutover := { s.cutover with level := s.cutover.level - 1, ramp := some { r with timer := r.interval } } }) ∧
    (∀ r o x b, s.cutover.ramp = some r → r.timer = 0 → r.target = 15 → s.cutover.level = 14 →
      s.cutover.record = some ⟨.mute, o, x⟩ →
      (x = .menu ∧ b = s.settings.menuBand ∨ ∃ p, x = .port p ∧ (s.port p).monitor.frozen = some b) →
      let loud : Cutover := { s.cutover with level := 15, ramp := none }
      (b ≠ s.cutover.band → s.settings.monitorSettle ≠ 0 → exec .rampStepExpiry s = .next { s with
        cutover := { loud with
          band := b, record := some ⟨.band, o, x⟩, settleTimer := some s.settings.monitorSettle } }) ∧
      (∀ p, x = .port p → b ≠ s.cutover.band ∧ s.settings.monitorSettle = 0 ∨
        b = s.cutover.band ∧ s.cutover.settleTimer = none →
        exec .rampStepExpiry s = .next { s with
          cutover := { loud with band := b, record := some ⟨.align, o, x⟩, settleTimer := none } })) ∧
    (∀ r o x, s.cutover.ramp = some r → r.timer = 0 → s.cutover.level = r.target + 1 →
      s.cutover.record = some ⟨.shown, o, x⟩ → s.cutover.blank = false → s.cutover.pendingSel = none →
      exec .rampStepExpiry s = .next { post .cutoverDone (sourceNumber x) (sourceNumber o) 0 s with
        cutover := { s.cutover with level := r.target, ramp := none, record := none } })

/-- A vertical sync of the target in ALIGN is SHOW, in one event: the target is the live source, LIVE, at the head of the
recency list and routed, with every held control marked; an outgoing LIVE board leaves LIVE by its leave action, PARKED with
its lots or STOPPING with them refunded, and nothing is posted; the blank stays asserted. The next vertical sync of the
target releases the blank, and the ramp to its sound trim begins; with trim 15 and the level at 15 the cutover is complete at
once. A vertical sync of any other port, or of the target in another phase, does nothing. -/
def Obligations.ShowPutsTheTargetOn : Prop :=
  (∀ (p q : PortNo) (pr : Profile) (s : State), p ≠ q → s.cutover.record = some ⟨.align, .port q, .port p⟩ →
    s.cutover.blank = true → (s.port q).state = .live → (s.port q).profile = some pr → gatesQuiet s = true →
    let u := offerVsync p s
    u.cutover = { s.cutover with live := .port p, record := some ⟨.shown, .port q, .port p⟩ } ∧ sourceSelect u = p.val + 1 ∧
      u.port p = { s.port p with state := .live } ∧ (∃ l, LeftLive q pr.leave l s u ∧ u.recency = p :: l.filter (· != p)) ∧
      u.router = { s.router with routed := some p, marks := s.router.level } ∧
      (∀ x, x ≠ p → x ≠ q → u.port x = s.port x) ∧ u.events = s.events) ∧
  (∀ (p : PortNo) (s : State), s.cutover.record = some ⟨.align, .menu, .port p⟩ → s.cutover.blank = true →
    offerVsync p s = { s with
      cutover := { s.cutover with live := .port p, record := some ⟨.shown, .menu, .port p⟩ }
      ports := setSlot s.ports p { s.port p with state := .live }
      recency := p :: s.recency.filter (· != p)
      router := { s.router with routed := some p, marks := s.router.level } }) ∧
  (∀ (p : PortNo) (o : Crosspoint) (pr : Profile) (s : State), s.cutover.record = some ⟨.shown, o, .port p⟩ →
    s.cutover.blank = true → (s.port p).profile = some pr →
    let step := s.settings.soundRamp / (s.cutover.level - pr.trim)
    (pr.trim < s.cutover.level → 0 < step → offerVsync p s = { s with
      cutover := { s.cutover with blank := false, ramp := some ⟨pr.trim, step, step⟩ } }) ∧
    (pr.trim = s.cutover.level → s.cutover.pendingSel = none → offerVsync p s =
      { post .cutoverDone (p.val + 1) (sourceNumber o) 0 s with
        cutover := { s.cutover with blank := false, ramp := none, record := none } })) ∧
  (∀ (p : PortNo) (s : State),
    (∀ r, s.cutover.record = some r → r.target = .port p →
      r.phase ≠ .align ∧ (r.phase = .shown → s.cutover.blank = false)) → offerVsync p s = s)

/-! ### Reading the part (chapters 5, 9, 10, 11) -/

/-- READ EVENTS: the oldest records, up to eight, leave the queue, the overflow flag is read and cleared, and both are answered.
CLEAR AUDITS and SHOWN_SECONDS_TICK: the clear sets every counter and remainder to 0 and keeps the money totals and all
else; a shown second reached is counted, and its remainder starts again. That a second reached and not yet taken is held in
a mark, and outlives CLEAR AUDITS, is the model's choice (log 27). -/
def Obligations.EventsAndAuditsRead : Prop :=
  (∀ s : State, Takes s → s.events.length ≤ 32 →
     exec .readEvents s = .next (answered .readEvents []
       ⟨.done, [byte (min 8 s.events.length), if s.overflow then 1 else 0] ++ (s.events.take 8).flatMap eventBytes⟩
       { s with events := s.events.drop 8, overflow := false })) ∧
  (∀ s : State,
     (Takes s → ∃ t, exec .clearAudits s = .next t ∧
       t = { s with ports := t.ports, cabinet := zeroCabinet, link := answeredLink .clearAudits [] ⟨.done, []⟩ s.link } ∧
       ∀ p, t.port p = { s.port p with audits := { zeroAudits with secondDue := (s.port p).audits.secondDue } }) ∧
     (∀ p, (s.port p).audits.secondDue = true → exec (.shownSecondsTick p) s = .next { s with
       ports := setSlot s.ports p { s.port p with
         audits := { (s.port p).audits with
           shownSeconds := min ((s.port p).audits.shownSeconds + 1) 4294967295
           remainder := 0
           secondDue := false } } }))

/-- ATTN (11 R166): asserted while the queue holds a record and released while it holds none. Every post leaves it asserted,
dropped or not; a READ EVENTS releases it when it removes the last record; the overflow flag, the response slot and READY
do not move it. -/
def Obligations.AttnFollowsTheQueue : Prop :=
  ∀ s : State, (attn s = true ↔ s.events ≠ []) ∧
    (∀ kind subject d1 d2, attn (post kind subject d1 d2 s) = true) ∧
    (∀ o l, attn { s with overflow := o, link := l } = attn s) ∧
    (Takes s → ∃ t, exec .readEvents s = .next t ∧ (attn t = true ↔ 8 < s.events.length))

/-- The two rates (05 R88): 8,000,000 over Lp and 800,000,000 over Lp × F, rounded down, and absent, sent as 0, when their Lp or
F is 0; both are computed from the reported Lp and F, and from the last-measured ones, at each reading. -/
def Obligations.Rates : Prop :=
  ∀ lp f : Nat, lineRate lp = (if 1 ≤ lp then 8000000 / lp else 0) ∧
    frameRate lp f = (if 1 ≤ lp ∧ 1 ≤ f then 800000000 / (lp * f) else 0) ∧ lineRate 65535 = 122 ∧
    (∀ m : Monitor, m.reported = some ⟨lp, f⟩ →
      reportedBytes m = be16 lp ++ be16 f ++ be32 (lineRate lp) ++ be32 (frameRate lp f)) ∧
    (∀ (m : Monitor) (b : Option Band) (v : Bool), m.last = some (.closed ⟨lp, f, b, v⟩) →
      lastBytes m = [if v then 1 else 2, byte (bandCode b)] ++
        (be16 lp ++ be16 f ++ be32 (lineRate lp) ++ be32 (frameRate lp f)))

/-- READ PORT, READ STATUS, READ CONTROLS and READ AUDITS change nothing but the selector port, and carry, at the offsets and
in the codes of 10 section 10.5, what the part's state holds: a port's life, timer, monitor and counters; the modes, the
picture and sound, the sequencer, chutes, meters and gates; the debounced levels, marks and driven lines; the counters, the
totals and the held money of a port or of the cabinet. READ PORT answers NOT SETTLED exactly while the monitor is SEARCHING,
and of an ABSENT port all its fields clear and no timer (log 25). Of a guard's seconds the rounding is free, and so are the
bytes of an absent end time (log 17, log 18). A port byte above 8, and for READ PORT 0, is INVALID. -/
def Obligations.ReportsOnlyReport : Prop :=
  CodesRight ∧ ∀ s : State, Takes s →
    (∃ x, x.length = 115 ∧ StatusSays s x ∧ exec .readStatus s = .next (answered .readStatus [] ⟨.done, x⟩ s)) ∧
    (∃ x, x.length = 22 ∧ ControlsSay s x ∧ exec .readControls s = .next (answered .readControls [] ⟨.done, x⟩ s)) ∧
    (exec (.readAudits 0) s = .next (answered .readAudits [0] ⟨.done, [0] ++
      ([slot s.cabinet.coins 0, slot s.cabinet.coins 1, slot s.cabinet.coins 2, slot s.cabinet.coins 3,
        slot s.cabinet.units 0, slot s.cabinet.units 1, slot s.cabinet.units 2, slot s.cabinet.units 3,
        s.cabinet.rejected, s.cabinet.jams, s.cabinet.overflowTicks, slot s.cabinet.meterOverflow 0,
        slot s.cabinet.meterOverflow 1, s.totalIn, s.totalOut,
        ((List.finRange 4).map fun a => s.balance a + (s.gate a).inFlight).sum +
          ((List.finRange 8).map (lotMoney s)).sum].flatMap be32)⟩ s)) ∧
    (∀ b : Byte, 8 < b.toNat →
      exec (.readAudits b) s = .next (answered .readAudits [b] ⟨.invalid, [3, 0]⟩ s)) ∧
    (∀ b : Byte, b.toNat = 0 ∨ 8 < b.toNat →
      exec (.readPort b) s = .next (answered .readPort [b] ⟨.invalid, [3, 0]⟩ s)) ∧
    (∀ p : PortNo,
      let b : Byte := BitVec.ofNat 8 (p.val + 1)
      let u := (s.port p).audits
      exec (.readAudits b) s = .next (answered .readAudits [b] ⟨.done, [b] ++
        ([u.starts, u.freeStarts, u.bundlesFunded, u.ticksCharged, u.ticksRefunded, u.ticksConsumed, u.serviceCredits,
          u.confirmMisses, u.strayPulses, u.orphanPulses, u.shownSeconds, u.boots, u.losses].flatMap be32) ++
        be16 u.remainder ++ be32 (flightMoney s p + lotMoney s p)⟩ s) ∧
      ((s.port p).state ≠ .absent → ∃ x, x.head? = some b ∧ PortSays (s.port p) x ∧
        exec (.readPort b) s = .next (answered .readPort [b]
          ⟨if (s.port p).monitor.state = .searching then .notSettled else .done, x⟩ s)) ∧
      ((s.port p).state = .absent → exec (.readPort b) s = .next (answered .readPort [b]
        ⟨.done, [b, 0, 0, 0, 0xFF, 0xFF] ++ List.replicate 32 0⟩ s)))

/-! ### What every step keeps -/

/-- Every step keeps the figures in range: every balance at or below the cap of 15,000 ticks, every counter and money total
within 32 bits, each cabinet meter at 255 pending at most and driven exactly while an increment is pending, and the event
queue at 32 records or fewer, full while its overflow flag is set. -/
def Obligations.StepKeepsFiguresInRange : Prop :=
  ∀ s t : State, step s = .next t →
    (BalancesCapped s → BalancesCapped t) ∧ (CountersBounded s → CountersBounded t) ∧
    (MetersRight s → MetersRight t) ∧ (EventsBounded s → EventsBounded t)

/-- Every step keeps every chute's lockout coil at the result of its four conditions. -/
def Obligations.StepKeepsCoilsRight : Prop := ∀ s t : State, CoilsRight s → step s = .next t → CoilsRight t

/-- Every step keeps ports, monitors, sequencer and cutover in agreement: among it at most two ports POWERING, the running load
within the budget, one LIVE board at most, and nothing running in SETUP. -/
def Obligations.StepKeepsBoardsRight : Prop := ∀ s t : State, BoardsRight s → step s = .next t → BoardsRight t

/-- Every step keeps gates, arbiters and counters in agreement, with no ordinary funding under a START that is passed through
(log 19); the money law, by which TOTAL IN less TOTAL OUT is the money
held in accounts, in flight and in lots, while neither total has saturated; the claim records and the credits of every
counter, which lots and plans together keep within the board's maximum of nine at most; and the expectation queues. And in
every step that takes no POWER_ON_RESET or CLEAR AUDITS, what a port's TICKS CHARGED gains is what TICKS CONSUMED, TICKS
REFUNDED and its held money gain, while none of the three has saturated. -/
def Obligations.StepKeepsTheMoney : Prop :=
  ∀ s t : State, BoardsRight s → FundingRight s → BalancesCapped s → step s = .next t →
    FundingRight t ∧ (MoneyLaw s → MoneyLaw t) ∧ (CreditsRight s → ExpectRight s → CreditsRight t ∧ ExpectRight t) ∧
      ((∀ c ∈ s.pending.head?, ¬ setsBackAudits c) → ∀ p, PortLawKept p s t)

/-- The state the model starts from, power-on reset with every strap input held (log 5), is what POWER_ON_RESET makes of it,
and it meets every invariant. -/
def Obligations.ResetMeetsTheInvariants : Prop :=
  exec (.powerOnReset 7 7) State.reset = .next State.reset ∧ BalancesCapped State.reset ∧ EventsBounded State.reset ∧
    CoilsRight State.reset ∧ MetersRight State.reset ∧ CountersBounded State.reset ∧ BoardsRight State.reset ∧
    FundingRight State.reset ∧ MoneyLaw State.reset ∧ CreditsRight State.reset ∧ ExpectRight State.reset
end

