-- ==== Sys2Proof/Laws/Table.lean ====
section
/-! SUPPORT. The laws of fixed numbers of like things: a read after a write, and a write leaves every other entry alone. -/

namespace Sys2Proof.Machine

variable {α β : Type} {n : Nat}

@[simp] theorem slot_setSlot_same (v : Vector α n) (i : Fin n) (x : α) : slot (setSlot v i x) i = x := by
  simp [slot, setSlot]

theorem slot_setSlot_ne (v : Vector α n) {i j : Fin n} (x : α) (h : j ≠ i) : slot (setSlot v i x) j = slot v j := by
  have : (i : Nat) ≠ j := fun e => h (Fin.ext e.symm)
  simp [slot, setSlot, this]

theorem slot_setSlot (v : Vector α n) (i j : Fin n) (x : α) : slot (setSlot v i x) j = if j = i then x else slot v j := by
  by_cases h : j = i
  · subst h; simp
  · simp [slot_setSlot_ne v x h, h]

@[simp] theorem slot_modSlot_same (v : Vector α n) (i : Fin n) (f : α → α) : slot (modSlot v i f) i = f (slot v i) := by
  simp [modSlot]

theorem slot_modSlot_ne (v : Vector α n) {i j : Fin n} (f : α → α) (h : j ≠ i) : slot (modSlot v i f) j = slot v j := by
  simp [modSlot, slot_setSlot_ne _ _ h]

theorem slot_modSlot (v : Vector α n) (i j : Fin n) (f : α → α) :
    slot (modSlot v i f) j = if j = i then f (slot v i) else slot v j := slot_setSlot v i j (f (slot v i))

@[simp] theorem slot_mapSlots (f : α → β) (v : Vector α n) (i : Fin n) : slot (mapSlots f v) i = f (slot v i) := by
  simp [slot, mapSlots]

@[simp] theorem slot_replicate (x : α) (i : Fin n) : slot (Vector.replicate n x) i = x := by
  simp [slot]

/-- Two tables that read alike are equal. -/
theorem slot_ext {v w : Vector α n} (h : ∀ i, slot v i = slot w i) : v = w :=
  Vector.ext fun i hi => h ⟨i, hi⟩

@[simp] theorem setSlot_slot_self (v : Vector α n) (i : Fin n) : setSlot v i (slot v i) = v := by
  apply slot_ext
  intro j
  by_cases h : j = i
  · subst h; simp
  · simp [slot_setSlot_ne _ _ h]

@[simp] theorem setSlot_setSlot (v : Vector α n) (i : Fin n) (x y : α) : setSlot (setSlot v i x) i y = setSlot v i y := by
  apply slot_ext
  intro j
  by_cases h : j = i
  · subst h; simp
  · simp [slot_setSlot_ne _ _ h]

end Sys2Proof.Machine
end

