-- ==== Sys2Proof/Laws/State.lean ====
section
/-! SUPPORT. What each update of the state leaves of each field, and what one repeated block reads after it: no later proof
unfolds a record update. -/

namespace Sys2Proof.Machine

/-! ### `modPort` -/

section

variable (p : PortNo) (f : Port → Port) (s : State)

@[simp] theorem modPort_pending : (modPort p f s).pending = s.pending := rfl
@[simp] theorem modPort_timeStamp : (modPort p f s).timeStamp = s.timeStamp := rfl
@[simp] theorem modPort_mode : (modPort p f s).mode = s.mode := rfl
@[simp] theorem modPort_straps : (modPort p f s).straps = s.straps := rfl
@[simp] theorem modPort_settings : (modPort p f s).settings = s.settings := rfl
@[simp] theorem modPort_chutes : (modPort p f s).chutes = s.chutes := rfl
@[simp] theorem modPort_meters : (modPort p f s).meters = s.meters := rfl
@[simp] theorem modPort_accounts : (modPort p f s).accounts = s.accounts := rfl
@[simp] theorem modPort_totalIn : (modPort p f s).totalIn = s.totalIn := rfl
@[simp] theorem modPort_totalOut : (modPort p f s).totalOut = s.totalOut := rfl
@[simp] theorem modPort_powerQueue : (modPort p f s).powerQueue = s.powerQueue := rfl
@[simp] theorem modPort_recency : (modPort p f s).recency = s.recency := rfl
@[simp] theorem modPort_gates : (modPort p f s).gates = s.gates := rfl
@[simp] theorem modPort_servicePending : (modPort p f s).servicePending = s.servicePending := rfl
@[simp] theorem modPort_router : (modPort p f s).router = s.router := rfl
@[simp] theorem modPort_resetPin : (modPort p f s).resetPin = s.resetPin := rfl
@[simp] theorem modPort_cutover : (modPort p f s).cutover = s.cutover := rfl
@[simp] theorem modPort_cabinet : (modPort p f s).cabinet = s.cabinet := rfl
@[simp] theorem modPort_link : (modPort p f s).link = s.link := rfl
@[simp] theorem modPort_events : (modPort p f s).events = s.events := rfl
@[simp] theorem modPort_overflow : (modPort p f s).overflow = s.overflow := rfl
@[simp] theorem modPort_freeCount : (modPort p f s).freeCount = s.freeCount := rfl
@[simp] theorem modPort_gate (u : Station) : (modPort p f s).gate u = s.gate u := rfl
@[simp] theorem modPort_chute (j : ChuteNo) : (modPort p f s).chute j = s.chute j := rfl
@[simp] theorem modPort_meter (k : MeterNo) : (modPort p f s).meter k = s.meter k := rfl
@[simp] theorem modPort_balance (a : AccountNo) : (modPort p f s).balance a = s.balance a := rfl

end

/-! ### `modGate` -/

section

variable (t : Station) (f : Gate → Gate) (s : State)

@[simp] theorem modGate_pending : (modGate t f s).pending = s.pending := rfl
@[simp] theorem modGate_timeStamp : (modGate t f s).timeStamp = s.timeStamp := rfl
@[simp] theorem modGate_mode : (modGate t f s).mode = s.mode := rfl
@[simp] theorem modGate_straps : (modGate t f s).straps = s.straps := rfl
@[simp] theorem modGate_settings : (modGate t f s).settings = s.settings := rfl
@[simp] theorem modGate_chutes : (modGate t f s).chutes = s.chutes := rfl
@[simp] theorem modGate_meters : (modGate t f s).meters = s.meters := rfl
@[simp] theorem modGate_accounts : (modGate t f s).accounts = s.accounts := rfl
@[simp] theorem modGate_totalIn : (modGate t f s).totalIn = s.totalIn := rfl
@[simp] theorem modGate_totalOut : (modGate t f s).totalOut = s.totalOut := rfl
@[simp] theorem modGate_ports : (modGate t f s).ports = s.ports := rfl
@[simp] theorem modGate_powerQueue : (modGate t f s).powerQueue = s.powerQueue := rfl
@[simp] theorem modGate_recency : (modGate t f s).recency = s.recency := rfl
@[simp] theorem modGate_servicePending : (modGate t f s).servicePending = s.servicePending := rfl
@[simp] theorem modGate_router : (modGate t f s).router = s.router := rfl
@[simp] theorem modGate_resetPin : (modGate t f s).resetPin = s.resetPin := rfl
@[simp] theorem modGate_cutover : (modGate t f s).cutover = s.cutover := rfl
@[simp] theorem modGate_cabinet : (modGate t f s).cabinet = s.cabinet := rfl
@[simp] theorem modGate_link : (modGate t f s).link = s.link := rfl
@[simp] theorem modGate_events : (modGate t f s).events = s.events := rfl
@[simp] theorem modGate_overflow : (modGate t f s).overflow = s.overflow := rfl
@[simp] theorem modGate_freeCount : (modGate t f s).freeCount = s.freeCount := rfl
@[simp] theorem modGate_port (q : PortNo) : (modGate t f s).port q = s.port q := rfl
@[simp] theorem modGate_chute (j : ChuteNo) : (modGate t f s).chute j = s.chute j := rfl
@[simp] theorem modGate_meter (k : MeterNo) : (modGate t f s).meter k = s.meter k := rfl
@[simp] theorem modGate_balance (a : AccountNo) : (modGate t f s).balance a = s.balance a := rfl

end

/-! ### `modChute` -/

section

variable (i : ChuteNo) (f : Chute → Chute) (s : State)

@[simp] theorem modChute_pending : (modChute i f s).pending = s.pending := rfl
@[simp] theorem modChute_timeStamp : (modChute i f s).timeStamp = s.timeStamp := rfl
@[simp] theorem modChute_mode : (modChute i f s).mode = s.mode := rfl
@[simp] theorem modChute_straps : (modChute i f s).straps = s.straps := rfl
@[simp] theorem modChute_settings : (modChute i f s).settings = s.settings := rfl
@[simp] theorem modChute_meters : (modChute i f s).meters = s.meters := rfl
@[simp] theorem modChute_accounts : (modChute i f s).accounts = s.accounts := rfl
@[simp] theorem modChute_totalIn : (modChute i f s).totalIn = s.totalIn := rfl
@[simp] theorem modChute_totalOut : (modChute i f s).totalOut = s.totalOut := rfl
@[simp] theorem modChute_ports : (modChute i f s).ports = s.ports := rfl
@[simp] theorem modChute_powerQueue : (modChute i f s).powerQueue = s.powerQueue := rfl
@[simp] theorem modChute_recency : (modChute i f s).recency = s.recency := rfl
@[simp] theorem modChute_gates : (modChute i f s).gates = s.gates := rfl
@[simp] theorem modChute_servicePending : (modChute i f s).servicePending = s.servicePending := rfl
@[simp] theorem modChute_router : (modChute i f s).router = s.router := rfl
@[simp] theorem modChute_resetPin : (modChute i f s).resetPin = s.resetPin := rfl
@[simp] theorem modChute_cutover : (modChute i f s).cutover = s.cutover := rfl
@[simp] theorem modChute_cabinet : (modChute i f s).cabinet = s.cabinet := rfl
@[simp] theorem modChute_link : (modChute i f s).link = s.link := rfl
@[simp] theorem modChute_events : (modChute i f s).events = s.events := rfl
@[simp] theorem modChute_overflow : (modChute i f s).overflow = s.overflow := rfl
@[simp] theorem modChute_freeCount : (modChute i f s).freeCount = s.freeCount := rfl
@[simp] theorem modChute_port (q : PortNo) : (modChute i f s).port q = s.port q := rfl
@[simp] theorem modChute_gate (u : Station) : (modChute i f s).gate u = s.gate u := rfl
@[simp] theorem modChute_meter (k : MeterNo) : (modChute i f s).meter k = s.meter k := rfl
@[simp] theorem modChute_balance (a : AccountNo) : (modChute i f s).balance a = s.balance a := rfl

end

/-! ### `modMeter` -/

section

variable (m : MeterNo) (f : Meter → Meter) (s : State)

@[simp] theorem modMeter_pending : (modMeter m f s).pending = s.pending := rfl
@[simp] theorem modMeter_timeStamp : (modMeter m f s).timeStamp = s.timeStamp := rfl
@[simp] theorem modMeter_mode : (modMeter m f s).mode = s.mode := rfl
@[simp] theorem modMeter_straps : (modMeter m f s).straps = s.straps := rfl
@[simp] theorem modMeter_settings : (modMeter m f s).settings = s.settings := rfl
@[simp] theorem modMeter_chutes : (modMeter m f s).chutes = s.chutes := rfl
@[simp] theorem modMeter_accounts : (modMeter m f s).accounts = s.accounts := rfl
@[simp] theorem modMeter_totalIn : (modMeter m f s).totalIn = s.totalIn := rfl
@[simp] theorem modMeter_totalOut : (modMeter m f s).totalOut = s.totalOut := rfl
@[simp] theorem modMeter_ports : (modMeter m f s).ports = s.ports := rfl
@[simp] theorem modMeter_powerQueue : (modMeter m f s).powerQueue = s.powerQueue := rfl
@[simp] theorem modMeter_recency : (modMeter m f s).recency = s.recency := rfl
@[simp] theorem modMeter_gates : (modMeter m f s).gates = s.gates := rfl
@[simp] theorem modMeter_servicePending : (modMeter m f s).servicePending = s.servicePending := rfl
@[simp] theorem modMeter_router : (modMeter m f s).router = s.router := rfl
@[simp] theorem modMeter_resetPin : (modMeter m f s).resetPin = s.resetPin := rfl
@[simp] theorem modMeter_cutover : (modMeter m f s).cutover = s.cutover := rfl
@[simp] theorem modMeter_cabinet : (modMeter m f s).cabinet = s.cabinet := rfl
@[simp] theorem modMeter_link : (modMeter m f s).link = s.link := rfl
@[simp] theorem modMeter_events : (modMeter m f s).events = s.events := rfl
@[simp] theorem modMeter_overflow : (modMeter m f s).overflow = s.overflow := rfl
@[simp] theorem modMeter_freeCount : (modMeter m f s).freeCount = s.freeCount := rfl
@[simp] theorem modMeter_port (q : PortNo) : (modMeter m f s).port q = s.port q := rfl
@[simp] theorem modMeter_gate (u : Station) : (modMeter m f s).gate u = s.gate u := rfl
@[simp] theorem modMeter_chute (j : ChuteNo) : (modMeter m f s).chute j = s.chute j := rfl
@[simp] theorem modMeter_balance (a : AccountNo) : (modMeter m f s).balance a = s.balance a := rfl

end

/-! ### `modCabinet` -/

section

variable (f : CabinetAudits → CabinetAudits) (s : State)

@[simp] theorem modCabinet_pending : (modCabinet f s).pending = s.pending := rfl
@[simp] theorem modCabinet_timeStamp : (modCabinet f s).timeStamp = s.timeStamp := rfl
@[simp] theorem modCabinet_mode : (modCabinet f s).mode = s.mode := rfl
@[simp] theorem modCabinet_straps : (modCabinet f s).straps = s.straps := rfl
@[simp] theorem modCabinet_settings : (modCabinet f s).settings = s.settings := rfl
@[simp] theorem modCabinet_chutes : (modCabinet f s).chutes = s.chutes := rfl
@[simp] theorem modCabinet_meters : (modCabinet f s).meters = s.meters := rfl
@[simp] theorem modCabinet_accounts : (modCabinet f s).accounts = s.accounts := rfl
@[simp] theorem modCabinet_totalIn : (modCabinet f s).totalIn = s.totalIn := rfl
@[simp] theorem modCabinet_totalOut : (modCabinet f s).totalOut = s.totalOut := rfl
@[simp] theorem modCabinet_ports : (modCabinet f s).ports = s.ports := rfl
@[simp] theorem modCabinet_powerQueue : (modCabinet f s).powerQueue = s.powerQueue := rfl
@[simp] theorem modCabinet_recency : (modCabinet f s).recency = s.recency := rfl
@[simp] theorem modCabinet_gates : (modCabinet f s).gates = s.gates := rfl
@[simp] theorem modCabinet_servicePending : (modCabinet f s).servicePending = s.servicePending := rfl
@[simp] theorem modCabinet_router : (modCabinet f s).router = s.router := rfl
@[simp] theorem modCabinet_resetPin : (modCabinet f s).resetPin = s.resetPin := rfl
@[simp] theorem modCabinet_cutover : (modCabinet f s).cutover = s.cutover := rfl
@[simp] theorem modCabinet_cabinet : (modCabinet f s).cabinet = f s.cabinet := rfl
@[simp] theorem modCabinet_link : (modCabinet f s).link = s.link := rfl
@[simp] theorem modCabinet_events : (modCabinet f s).events = s.events := rfl
@[simp] theorem modCabinet_overflow : (modCabinet f s).overflow = s.overflow := rfl
@[simp] theorem modCabinet_freeCount : (modCabinet f s).freeCount = s.freeCount := rfl
@[simp] theorem modCabinet_port (q : PortNo) : (modCabinet f s).port q = s.port q := rfl
@[simp] theorem modCabinet_gate (u : Station) : (modCabinet f s).gate u = s.gate u := rfl
@[simp] theorem modCabinet_chute (j : ChuteNo) : (modCabinet f s).chute j = s.chute j := rfl
@[simp] theorem modCabinet_meter (k : MeterNo) : (modCabinet f s).meter k = s.meter k := rfl
@[simp] theorem modCabinet_balance (a : AccountNo) : (modCabinet f s).balance a = s.balance a := rfl

end

/-! ### `modRouter` -/

section

variable (f : Router → Router) (s : State)

@[simp] theorem modRouter_pending : (modRouter f s).pending = s.pending := rfl
@[simp] theorem modRouter_timeStamp : (modRouter f s).timeStamp = s.timeStamp := rfl
@[simp] theorem modRouter_mode : (modRouter f s).mode = s.mode := rfl
@[simp] theorem modRouter_straps : (modRouter f s).straps = s.straps := rfl
@[simp] theorem modRouter_settings : (modRouter f s).settings = s.settings := rfl
@[simp] theorem modRouter_chutes : (modRouter f s).chutes = s.chutes := rfl
@[simp] theorem modRouter_meters : (modRouter f s).meters = s.meters := rfl
@[simp] theorem modRouter_accounts : (modRouter f s).accounts = s.accounts := rfl
@[simp] theorem modRouter_totalIn : (modRouter f s).totalIn = s.totalIn := rfl
@[simp] theorem modRouter_totalOut : (modRouter f s).totalOut = s.totalOut := rfl
@[simp] theorem modRouter_ports : (modRouter f s).ports = s.ports := rfl
@[simp] theorem modRouter_powerQueue : (modRouter f s).powerQueue = s.powerQueue := rfl
@[simp] theorem modRouter_recency : (modRouter f s).recency = s.recency := rfl
@[simp] theorem modRouter_gates : (modRouter f s).gates = s.gates := rfl
@[simp] theorem modRouter_servicePending : (modRouter f s).servicePending = s.servicePending := rfl
@[simp] theorem modRouter_router : (modRouter f s).router = f s.router := rfl
@[simp] theorem modRouter_resetPin : (modRouter f s).resetPin = s.resetPin := rfl
@[simp] theorem modRouter_cutover : (modRouter f s).cutover = s.cutover := rfl
@[simp] theorem modRouter_cabinet : (modRouter f s).cabinet = s.cabinet := rfl
@[simp] theorem modRouter_link : (modRouter f s).link = s.link := rfl
@[simp] theorem modRouter_events : (modRouter f s).events = s.events := rfl
@[simp] theorem modRouter_overflow : (modRouter f s).overflow = s.overflow := rfl
@[simp] theorem modRouter_freeCount : (modRouter f s).freeCount = s.freeCount := rfl
@[simp] theorem modRouter_port (q : PortNo) : (modRouter f s).port q = s.port q := rfl
@[simp] theorem modRouter_gate (u : Station) : (modRouter f s).gate u = s.gate u := rfl
@[simp] theorem modRouter_chute (j : ChuteNo) : (modRouter f s).chute j = s.chute j := rfl
@[simp] theorem modRouter_meter (k : MeterNo) : (modRouter f s).meter k = s.meter k := rfl
@[simp] theorem modRouter_balance (a : AccountNo) : (modRouter f s).balance a = s.balance a := rfl

end

/-! ### `modCutover` -/

section

variable (f : Cutover → Cutover) (s : State)

@[simp] theorem modCutover_pending : (modCutover f s).pending = s.pending := rfl
@[simp] theorem modCutover_timeStamp : (modCutover f s).timeStamp = s.timeStamp := rfl
@[simp] theorem modCutover_mode : (modCutover f s).mode = s.mode := rfl
@[simp] theorem modCutover_straps : (modCutover f s).straps = s.straps := rfl
@[simp] theorem modCutover_settings : (modCutover f s).settings = s.settings := rfl
@[simp] theorem modCutover_chutes : (modCutover f s).chutes = s.chutes := rfl
@[simp] theorem modCutover_meters : (modCutover f s).meters = s.meters := rfl
@[simp] theorem modCutover_accounts : (modCutover f s).accounts = s.accounts := rfl
@[simp] theorem modCutover_totalIn : (modCutover f s).totalIn = s.totalIn := rfl
@[simp] theorem modCutover_totalOut : (modCutover f s).totalOut = s.totalOut := rfl
@[simp] theorem modCutover_ports : (modCutover f s).ports = s.ports := rfl
@[simp] theorem modCutover_powerQueue : (modCutover f s).powerQueue = s.powerQueue := rfl
@[simp] theorem modCutover_recency : (modCutover f s).recency = s.recency := rfl
@[simp] theorem modCutover_gates : (modCutover f s).gates = s.gates := rfl
@[simp] theorem modCutover_servicePending : (modCutover f s).servicePending = s.servicePending := rfl
@[simp] theorem modCutover_router : (modCutover f s).router = s.router := rfl
@[simp] theorem modCutover_resetPin : (modCutover f s).resetPin = s.resetPin := rfl
@[simp] theorem modCutover_cutover : (modCutover f s).cutover = f s.cutover := rfl
@[simp] theorem modCutover_cabinet : (modCutover f s).cabinet = s.cabinet := rfl
@[simp] theorem modCutover_link : (modCutover f s).link = s.link := rfl
@[simp] theorem modCutover_events : (modCutover f s).events = s.events := rfl
@[simp] theorem modCutover_overflow : (modCutover f s).overflow = s.overflow := rfl
@[simp] theorem modCutover_freeCount : (modCutover f s).freeCount = s.freeCount := rfl
@[simp] theorem modCutover_port (q : PortNo) : (modCutover f s).port q = s.port q := rfl
@[simp] theorem modCutover_gate (u : Station) : (modCutover f s).gate u = s.gate u := rfl
@[simp] theorem modCutover_chute (j : ChuteNo) : (modCutover f s).chute j = s.chute j := rfl
@[simp] theorem modCutover_meter (k : MeterNo) : (modCutover f s).meter k = s.meter k := rfl
@[simp] theorem modCutover_balance (a : AccountNo) : (modCutover f s).balance a = s.balance a := rfl

end

/-! ### `modLink` -/

section

variable (f : Link → Link) (s : State)

@[simp] theorem modLink_pending : (modLink f s).pending = s.pending := rfl
@[simp] theorem modLink_timeStamp : (modLink f s).timeStamp = s.timeStamp := rfl
@[simp] theorem modLink_mode : (modLink f s).mode = s.mode := rfl
@[simp] theorem modLink_straps : (modLink f s).straps = s.straps := rfl
@[simp] theorem modLink_settings : (modLink f s).settings = s.settings := rfl
@[simp] theorem modLink_chutes : (modLink f s).chutes = s.chutes := rfl
@[simp] theorem modLink_meters : (modLink f s).meters = s.meters := rfl
@[simp] theorem modLink_accounts : (modLink f s).accounts = s.accounts := rfl
@[simp] theorem modLink_totalIn : (modLink f s).totalIn = s.totalIn := rfl
@[simp] theorem modLink_totalOut : (modLink f s).totalOut = s.totalOut := rfl
@[simp] theorem modLink_ports : (modLink f s).ports = s.ports := rfl
@[simp] theorem modLink_powerQueue : (modLink f s).powerQueue = s.powerQueue := rfl
@[simp] theorem modLink_recency : (modLink f s).recency = s.recency := rfl
@[simp] theorem modLink_gates : (modLink f s).gates = s.gates := rfl
@[simp] theorem modLink_servicePending : (modLink f s).servicePending = s.servicePending := rfl
@[simp] theorem modLink_router : (modLink f s).router = s.router := rfl
@[simp] theorem modLink_resetPin : (modLink f s).resetPin = s.resetPin := rfl
@[simp] theorem modLink_cutover : (modLink f s).cutover = s.cutover := rfl
@[simp] theorem modLink_cabinet : (modLink f s).cabinet = s.cabinet := rfl
@[simp] theorem modLink_link : (modLink f s).link = f s.link := rfl
@[simp] theorem modLink_events : (modLink f s).events = s.events := rfl
@[simp] theorem modLink_overflow : (modLink f s).overflow = s.overflow := rfl
@[simp] theorem modLink_freeCount : (modLink f s).freeCount = s.freeCount := rfl
@[simp] theorem modLink_port (q : PortNo) : (modLink f s).port q = s.port q := rfl
@[simp] theorem modLink_gate (u : Station) : (modLink f s).gate u = s.gate u := rfl
@[simp] theorem modLink_chute (j : ChuteNo) : (modLink f s).chute j = s.chute j := rfl
@[simp] theorem modLink_meter (k : MeterNo) : (modLink f s).meter k = s.meter k := rfl
@[simp] theorem modLink_balance (a : AccountNo) : (modLink f s).balance a = s.balance a := rfl

end

/-! ### `modAudits` -/

section

variable (p : PortNo) (f : PortAudits → PortAudits) (s : State)

@[simp] theorem modAudits_pending : (modAudits p f s).pending = s.pending := rfl
@[simp] theorem modAudits_timeStamp : (modAudits p f s).timeStamp = s.timeStamp := rfl
@[simp] theorem modAudits_mode : (modAudits p f s).mode = s.mode := rfl
@[simp] theorem modAudits_straps : (modAudits p f s).straps = s.straps := rfl
@[simp] theorem modAudits_settings : (modAudits p f s).settings = s.settings := rfl
@[simp] theorem modAudits_chutes : (modAudits p f s).chutes = s.chutes := rfl
@[simp] theorem modAudits_meters : (modAudits p f s).meters = s.meters := rfl
@[simp] theorem modAudits_accounts : (modAudits p f s).accounts = s.accounts := rfl
@[simp] theorem modAudits_totalIn : (modAudits p f s).totalIn = s.totalIn := rfl
@[simp] theorem modAudits_totalOut : (modAudits p f s).totalOut = s.totalOut := rfl
@[simp] theorem modAudits_powerQueue : (modAudits p f s).powerQueue = s.powerQueue := rfl
@[simp] theorem modAudits_recency : (modAudits p f s).recency = s.recency := rfl
@[simp] theorem modAudits_gates : (modAudits p f s).gates = s.gates := rfl
@[simp] theorem modAudits_servicePending : (modAudits p f s).servicePending = s.servicePending := rfl
@[simp] theorem modAudits_router : (modAudits p f s).router = s.router := rfl
@[simp] theorem modAudits_resetPin : (modAudits p f s).resetPin = s.resetPin := rfl
@[simp] theorem modAudits_cutover : (modAudits p f s).cutover = s.cutover := rfl
@[simp] theorem modAudits_cabinet : (modAudits p f s).cabinet = s.cabinet := rfl
@[simp] theorem modAudits_link : (modAudits p f s).link = s.link := rfl
@[simp] theorem modAudits_events : (modAudits p f s).events = s.events := rfl
@[simp] theorem modAudits_overflow : (modAudits p f s).overflow = s.overflow := rfl
@[simp] theorem modAudits_freeCount : (modAudits p f s).freeCount = s.freeCount := rfl
@[simp] theorem modAudits_gate (u : Station) : (modAudits p f s).gate u = s.gate u := rfl
@[simp] theorem modAudits_chute (j : ChuteNo) : (modAudits p f s).chute j = s.chute j := rfl
@[simp] theorem modAudits_meter (k : MeterNo) : (modAudits p f s).meter k = s.meter k := rfl
@[simp] theorem modAudits_balance (a : AccountNo) : (modAudits p f s).balance a = s.balance a := rfl

end

/-! ### `modMonitor` -/

section

variable (p : PortNo) (f : Monitor → Monitor) (s : State)

@[simp] theorem modMonitor_pending : (modMonitor p f s).pending = s.pending := rfl
@[simp] theorem modMonitor_timeStamp : (modMonitor p f s).timeStamp = s.timeStamp := rfl
@[simp] theorem modMonitor_mode : (modMonitor p f s).mode = s.mode := rfl
@[simp] theorem modMonitor_straps : (modMonitor p f s).straps = s.straps := rfl
@[simp] theorem modMonitor_settings : (modMonitor p f s).settings = s.settings := rfl
@[simp] theorem modMonitor_chutes : (modMonitor p f s).chutes = s.chutes := rfl
@[simp] theorem modMonitor_meters : (modMonitor p f s).meters = s.meters := rfl
@[simp] theorem modMonitor_accounts : (modMonitor p f s).accounts = s.accounts := rfl
@[simp] theorem modMonitor_totalIn : (modMonitor p f s).totalIn = s.totalIn := rfl
@[simp] theorem modMonitor_totalOut : (modMonitor p f s).totalOut = s.totalOut := rfl
@[simp] theorem modMonitor_powerQueue : (modMonitor p f s).powerQueue = s.powerQueue := rfl
@[simp] theorem modMonitor_recency : (modMonitor p f s).recency = s.recency := rfl
@[simp] theorem modMonitor_gates : (modMonitor p f s).gates = s.gates := rfl
@[simp] theorem modMonitor_servicePending : (modMonitor p f s).servicePending = s.servicePending := rfl
@[simp] theorem modMonitor_router : (modMonitor p f s).router = s.router := rfl
@[simp] theorem modMonitor_resetPin : (modMonitor p f s).resetPin = s.resetPin := rfl
@[simp] theorem modMonitor_cutover : (modMonitor p f s).cutover = s.cutover := rfl
@[simp] theorem modMonitor_cabinet : (modMonitor p f s).cabinet = s.cabinet := rfl
@[simp] theorem modMonitor_link : (modMonitor p f s).link = s.link := rfl
@[simp] theorem modMonitor_events : (modMonitor p f s).events = s.events := rfl
@[simp] theorem modMonitor_overflow : (modMonitor p f s).overflow = s.overflow := rfl
@[simp] theorem modMonitor_freeCount : (modMonitor p f s).freeCount = s.freeCount := rfl
@[simp] theorem modMonitor_gate (u : Station) : (modMonitor p f s).gate u = s.gate u := rfl
@[simp] theorem modMonitor_chute (j : ChuteNo) : (modMonitor p f s).chute j = s.chute j := rfl
@[simp] theorem modMonitor_meter (k : MeterNo) : (modMonitor p f s).meter k = s.meter k := rfl
@[simp] theorem modMonitor_balance (a : AccountNo) : (modMonitor p f s).balance a = s.balance a := rfl

end

/-! ### Reading the block that was changed -/

@[simp] theorem port_modPort_same (p : PortNo) (f : Port → Port) (s : State) : (modPort p f s).port p = f (s.port p) :=
  slot_modSlot_same s.ports p f

theorem port_modPort_ne {p q : PortNo} (f : Port → Port) (s : State) (h : q ≠ p) : (modPort p f s).port q = s.port q :=
  slot_modSlot_ne s.ports f h

theorem port_modPort (p q : PortNo) (f : Port → Port) (s : State) :
    (modPort p f s).port q = if q = p then f (s.port p) else s.port q := slot_modSlot s.ports p q f

@[simp] theorem gate_modGate_same (t : Station) (f : Gate → Gate) (s : State) : (modGate t f s).gate t = f (s.gate t) :=
  slot_modSlot_same s.gates t f

theorem gate_modGate_ne {t u : Station} (f : Gate → Gate) (s : State) (h : u ≠ t) : (modGate t f s).gate u = s.gate u :=
  slot_modSlot_ne s.gates f h

theorem gate_modGate (t u : Station) (f : Gate → Gate) (s : State) :
    (modGate t f s).gate u = if u = t then f (s.gate t) else s.gate u := slot_modSlot s.gates t u f

@[simp] theorem chute_modChute_same (i : ChuteNo) (f : Chute → Chute) (s : State) :
    (modChute i f s).chute i = f (s.chute i) := slot_modSlot_same s.chutes i f

theorem chute_modChute_ne {i j : ChuteNo} (f : Chute → Chute) (s : State) (h : j ≠ i) :
    (modChute i f s).chute j = s.chute j := slot_modSlot_ne s.chutes f h

theorem chute_modChute (i j : ChuteNo) (f : Chute → Chute) (s : State) :
    (modChute i f s).chute j = if j = i then f (s.chute i) else s.chute j := slot_modSlot s.chutes i j f

@[simp] theorem meter_modMeter_same (m : MeterNo) (f : Meter → Meter) (s : State) :
    (modMeter m f s).meter m = f (s.meter m) := slot_modSlot_same s.meters m f

theorem meter_modMeter_ne {m k : MeterNo} (f : Meter → Meter) (s : State) (h : k ≠ m) :
    (modMeter m f s).meter k = s.meter k := slot_modSlot_ne s.meters f h

@[simp] theorem port_modAudits_same (p : PortNo) (f : PortAudits → PortAudits) (s : State) :
    (modAudits p f s).port p = { s.port p with audits := f (s.port p).audits } := port_modPort_same p _ s

theorem port_modAudits_ne {p q : PortNo} (f : PortAudits → PortAudits) (s : State) (h : q ≠ p) :
    (modAudits p f s).port q = s.port q := port_modPort_ne _ s h

@[simp] theorem port_modMonitor_same (p : PortNo) (f : Monitor → Monitor) (s : State) :
    (modMonitor p f s).port p = { s.port p with monitor := f (s.port p).monitor } := port_modPort_same p _ s

theorem port_modMonitor_ne {p q : PortNo} (f : Monitor → Monitor) (s : State) (h : q ≠ p) :
    (modMonitor p f s).port q = s.port q := port_modPort_ne _ s h

end Sys2Proof.Machine
end

