-- ==== Sys2Proof/Laws/Ops.lean ====
section
/-! SUPPORT. What each shared operation of Machine/Ops.lean can do, said once. -/

namespace Sys2Proof.Machine

/-! ### Events (11 R162) -/

/-- A post changes the event queue and its overflow flag, and nothing else. -/
theorem post_frame (k : EventKind) (a b c : Nat) (s : State) :
    post k a b c s = { s with events := (post k a b c s).events, overflow := (post k a b c s).overflow } := rfl

theorem post_events_of_room (k : EventKind) (a b c : Nat) (s : State) (h : s.events.length < Config.eventCapacity) :
    (post k a b c s).events =
      s.events ++ [⟨k, BitVec.ofNat 8 a, BitVec.ofNat 16 b, BitVec.ofNat 16 c, s.timeStamp⟩] := by
  simp [post, h]

theorem post_events_of_full (k : EventKind) (a b c : Nat) (s : State) (h : ¬ s.events.length < Config.eventCapacity) :
    (post k a b c s).events = s.events ∧ (post k a b c s).overflow = true := by
  simp [post, h]

theorem post_overflow_of_room (k : EventKind) (a b c : Nat) (s : State) (h : s.events.length < Config.eventCapacity) :
    (post k a b c s).overflow = s.overflow := by
  simp [post, h]

/-- A post keeps the queue within its 32 records, and full while the overflow flag is set. -/
theorem post_bounded (k : EventKind) (a b c : Nat) (s : State)
    (h : s.events.length ≤ Config.eventCapacity ∧ (s.overflow = true → s.events.length = Config.eventCapacity)) :
    (post k a b c s).events.length ≤ Config.eventCapacity ∧
      ((post k a b c s).overflow = true → (post k a b c s).events.length = Config.eventCapacity) := by
  by_cases r : s.events.length < Config.eventCapacity
  · rw [post_events_of_room k a b c s r, post_overflow_of_room k a b c s r, List.length_append]
    refine ⟨r, fun o => absurd (h.2 o) (Nat.ne_of_lt r)⟩
  · rw [(post_events_of_full k a b c s r).1]
    exact ⟨h.1, fun _ => Nat.le_antisymm h.1 (Nat.le_of_not_lt r)⟩

section

variable (k : EventKind) (a b c : Nat) (s : State)

@[simp] theorem post_pending : (post k a b c s).pending = s.pending := rfl
@[simp] theorem post_timeStamp : (post k a b c s).timeStamp = s.timeStamp := rfl
@[simp] theorem post_mode : (post k a b c s).mode = s.mode := rfl
@[simp] theorem post_straps : (post k a b c s).straps = s.straps := rfl
@[simp] theorem post_settings : (post k a b c s).settings = s.settings := rfl
@[simp] theorem post_chutes : (post k a b c s).chutes = s.chutes := rfl
@[simp] theorem post_meters : (post k a b c s).meters = s.meters := rfl
@[simp] theorem post_accounts : (post k a b c s).accounts = s.accounts := rfl
@[simp] theorem post_totalIn : (post k a b c s).totalIn = s.totalIn := rfl
@[simp] theorem post_totalOut : (post k a b c s).totalOut = s.totalOut := rfl
@[simp] theorem post_ports : (post k a b c s).ports = s.ports := rfl
@[simp] theorem post_powerQueue : (post k a b c s).powerQueue = s.powerQueue := rfl
@[simp] theorem post_recency : (post k a b c s).recency = s.recency := rfl
@[simp] theorem post_gates : (post k a b c s).gates = s.gates := rfl
@[simp] theorem post_servicePending : (post k a b c s).servicePending = s.servicePending := rfl
@[simp] theorem post_router : (post k a b c s).router = s.router := rfl
@[simp] theorem post_resetPin : (post k a b c s).resetPin = s.resetPin := rfl
@[simp] theorem post_cutover : (post k a b c s).cutover = s.cutover := rfl
@[simp] theorem post_cabinet : (post k a b c s).cabinet = s.cabinet := rfl
@[simp] theorem post_link : (post k a b c s).link = s.link := rfl
@[simp] theorem post_freeCount : (post k a b c s).freeCount = s.freeCount := rfl
@[simp] theorem post_port (q : PortNo) : (post k a b c s).port q = s.port q := rfl
@[simp] theorem post_gate (u : Station) : (post k a b c s).gate u = s.gate u := rfl
@[simp] theorem post_chute (j : ChuteNo) : (post k a b c s).chute j = s.chute j := rfl
@[simp] theorem post_meter (m : MeterNo) : (post k a b c s).meter m = s.meter m := rfl
@[simp] theorem post_balance (x : AccountNo) : (post k a b c s).balance x = s.balance x := rfl

end

/-! ### Saturating counters (09 R142) -/

theorem satAdd_le (n m : Nat) : satAdd n m ≤ Config.counterMax := Nat.min_le_right _ _

theorem satAdd_of_le {n m : Nat} (h : n + m ≤ Config.counterMax) : satAdd n m = n + m := Nat.min_eq_left h

/-! ### The coils (01 R9, R10) -/

/-- Re-evaluating a coil changes the coils, and nothing else. -/
theorem coilOf_frame (i : ChuteNo) (s : State) : coilOf i s = { s with chutes := (coilOf i s).chutes } := rfl
theorem coilIfFed_frame (a : AccountNo) (i : ChuteNo) (s : State) :
    coilIfFed a i s = { s with chutes := (coilIfFed a i s).chutes } := rfl
theorem allCoils_frame (s : State) : allCoils s = { s with chutes := (allCoils s).chutes } := rfl
theorem coilsFedBy_frame (a : AccountNo) (s : State) : coilsFedBy a s = { s with chutes := (coilsFedBy a s).chutes } := rfl

section

variable (a : AccountNo) (i : ChuteNo) (s : State)

@[simp] theorem coilOf_pending : (coilOf i s).pending = s.pending := rfl
@[simp] theorem coilOf_timeStamp : (coilOf i s).timeStamp = s.timeStamp := rfl
@[simp] theorem coilOf_mode : (coilOf i s).mode = s.mode := rfl
@[simp] theorem coilOf_straps : (coilOf i s).straps = s.straps := rfl
@[simp] theorem coilOf_settings : (coilOf i s).settings = s.settings := rfl
@[simp] theorem coilOf_meters : (coilOf i s).meters = s.meters := rfl
@[simp] theorem coilOf_accounts : (coilOf i s).accounts = s.accounts := rfl
@[simp] theorem coilOf_totalIn : (coilOf i s).totalIn = s.totalIn := rfl
@[simp] theorem coilOf_totalOut : (coilOf i s).totalOut = s.totalOut := rfl
@[simp] theorem coilOf_ports : (coilOf i s).ports = s.ports := rfl
@[simp] theorem coilOf_powerQueue : (coilOf i s).powerQueue = s.powerQueue := rfl
@[simp] theorem coilOf_recency : (coilOf i s).recency = s.recency := rfl
@[simp] theorem coilOf_gates : (coilOf i s).gates = s.gates := rfl
@[simp] theorem coilOf_servicePending : (coilOf i s).servicePending = s.servicePending := rfl
@[simp] theorem coilOf_router : (coilOf i s).router = s.router := rfl
@[simp] theorem coilOf_resetPin : (coilOf i s).resetPin = s.resetPin := rfl
@[simp] theorem coilOf_cutover : (coilOf i s).cutover = s.cutover := rfl
@[simp] theorem coilOf_cabinet : (coilOf i s).cabinet = s.cabinet := rfl
@[simp] theorem coilOf_link : (coilOf i s).link = s.link := rfl
@[simp] theorem coilOf_events : (coilOf i s).events = s.events := rfl
@[simp] theorem coilOf_overflow : (coilOf i s).overflow = s.overflow := rfl
@[simp] theorem coilOf_freeCount : (coilOf i s).freeCount = s.freeCount := rfl
@[simp] theorem coilOf_port (q : PortNo) : (coilOf i s).port q = s.port q := rfl
@[simp] theorem coilOf_gate (u : Station) : (coilOf i s).gate u = s.gate u := rfl
@[simp] theorem coilOf_meter (m : MeterNo) : (coilOf i s).meter m = s.meter m := rfl
@[simp] theorem coilOf_balance (x : AccountNo) : (coilOf i s).balance x = s.balance x := rfl
@[simp] theorem accountOf_coilOf (j : Fin 4) : accountOf (coilOf i s) j = accountOf s j := rfl
@[simp] theorem coilIfFed_pending : (coilIfFed a i s).pending = s.pending := rfl
@[simp] theorem coilIfFed_timeStamp : (coilIfFed a i s).timeStamp = s.timeStamp := rfl
@[simp] theorem coilIfFed_mode : (coilIfFed a i s).mode = s.mode := rfl
@[simp] theorem coilIfFed_straps : (coilIfFed a i s).straps = s.straps := rfl
@[simp] theorem coilIfFed_settings : (coilIfFed a i s).settings = s.settings := rfl
@[simp] theorem coilIfFed_meters : (coilIfFed a i s).meters = s.meters := rfl
@[simp] theorem coilIfFed_accounts : (coilIfFed a i s).accounts = s.accounts := rfl
@[simp] theorem coilIfFed_totalIn : (coilIfFed a i s).totalIn = s.totalIn := rfl
@[simp] theorem coilIfFed_totalOut : (coilIfFed a i s).totalOut = s.totalOut := rfl
@[simp] theorem coilIfFed_ports : (coilIfFed a i s).ports = s.ports := rfl
@[simp] theorem coilIfFed_powerQueue : (coilIfFed a i s).powerQueue = s.powerQueue := rfl
@[simp] theorem coilIfFed_recency : (coilIfFed a i s).recency = s.recency := rfl
@[simp] theorem coilIfFed_gates : (coilIfFed a i s).gates = s.gates := rfl
@[simp] theorem coilIfFed_servicePending : (coilIfFed a i s).servicePending = s.servicePending := rfl
@[simp] theorem coilIfFed_router : (coilIfFed a i s).router = s.router := rfl
@[simp] theorem coilIfFed_resetPin : (coilIfFed a i s).resetPin = s.resetPin := rfl
@[simp] theorem coilIfFed_cutover : (coilIfFed a i s).cutover = s.cutover := rfl
@[simp] theorem coilIfFed_cabinet : (coilIfFed a i s).cabinet = s.cabinet := rfl
@[simp] theorem coilIfFed_link : (coilIfFed a i s).link = s.link := rfl
@[simp] theorem coilIfFed_events : (coilIfFed a i s).events = s.events := rfl
@[simp] theorem coilIfFed_overflow : (coilIfFed a i s).overflow = s.overflow := rfl
@[simp] theorem coilIfFed_freeCount : (coilIfFed a i s).freeCount = s.freeCount := rfl
@[simp] theorem coilIfFed_port (q : PortNo) : (coilIfFed a i s).port q = s.port q := rfl
@[simp] theorem coilIfFed_gate (u : Station) : (coilIfFed a i s).gate u = s.gate u := rfl
@[simp] theorem coilIfFed_meter (m : MeterNo) : (coilIfFed a i s).meter m = s.meter m := rfl
@[simp] theorem coilIfFed_balance (x : AccountNo) : (coilIfFed a i s).balance x = s.balance x := rfl
@[simp] theorem accountOf_coilIfFed (j : Fin 4) : accountOf (coilIfFed a i s) j = accountOf s j := rfl
@[simp] theorem allCoils_pending : (allCoils s).pending = s.pending := rfl
@[simp] theorem allCoils_timeStamp : (allCoils s).timeStamp = s.timeStamp := rfl
@[simp] theorem allCoils_mode : (allCoils s).mode = s.mode := rfl
@[simp] theorem allCoils_straps : (allCoils s).straps = s.straps := rfl
@[simp] theorem allCoils_settings : (allCoils s).settings = s.settings := rfl
@[simp] theorem allCoils_meters : (allCoils s).meters = s.meters := rfl
@[simp] theorem allCoils_accounts : (allCoils s).accounts = s.accounts := rfl
@[simp] theorem allCoils_totalIn : (allCoils s).totalIn = s.totalIn := rfl
@[simp] theorem allCoils_totalOut : (allCoils s).totalOut = s.totalOut := rfl
@[simp] theorem allCoils_ports : (allCoils s).ports = s.ports := rfl
@[simp] theorem allCoils_powerQueue : (allCoils s).powerQueue = s.powerQueue := rfl
@[simp] theorem allCoils_recency : (allCoils s).recency = s.recency := rfl
@[simp] theorem allCoils_gates : (allCoils s).gates = s.gates := rfl
@[simp] theorem allCoils_servicePending : (allCoils s).servicePending = s.servicePending := rfl
@[simp] theorem allCoils_router : (allCoils s).router = s.router := rfl
@[simp] theorem allCoils_resetPin : (allCoils s).resetPin = s.resetPin := rfl
@[simp] theorem allCoils_cutover : (allCoils s).cutover = s.cutover := rfl
@[simp] theorem allCoils_cabinet : (allCoils s).cabinet = s.cabinet := rfl
@[simp] theorem allCoils_link : (allCoils s).link = s.link := rfl
@[simp] theorem allCoils_events : (allCoils s).events = s.events := rfl
@[simp] theorem allCoils_overflow : (allCoils s).overflow = s.overflow := rfl
@[simp] theorem allCoils_freeCount : (allCoils s).freeCount = s.freeCount := rfl
@[simp] theorem allCoils_port (q : PortNo) : (allCoils s).port q = s.port q := rfl
@[simp] theorem allCoils_gate (u : Station) : (allCoils s).gate u = s.gate u := rfl
@[simp] theorem allCoils_meter (m : MeterNo) : (allCoils s).meter m = s.meter m := rfl
@[simp] theorem allCoils_balance (x : AccountNo) : (allCoils s).balance x = s.balance x := rfl
@[simp] theorem accountOf_allCoils (j : Fin 4) : accountOf (allCoils s) j = accountOf s j := rfl
@[simp] theorem coilsFedBy_pending : (coilsFedBy a s).pending = s.pending := rfl
@[simp] theorem coilsFedBy_timeStamp : (coilsFedBy a s).timeStamp = s.timeStamp := rfl
@[simp] theorem coilsFedBy_mode : (coilsFedBy a s).mode = s.mode := rfl
@[simp] theorem coilsFedBy_straps : (coilsFedBy a s).straps = s.straps := rfl
@[simp] theorem coilsFedBy_settings : (coilsFedBy a s).settings = s.settings := rfl
@[simp] theorem coilsFedBy_meters : (coilsFedBy a s).meters = s.meters := rfl
@[simp] theorem coilsFedBy_accounts : (coilsFedBy a s).accounts = s.accounts := rfl
@[simp] theorem coilsFedBy_totalIn : (coilsFedBy a s).totalIn = s.totalIn := rfl
@[simp] theorem coilsFedBy_totalOut : (coilsFedBy a s).totalOut = s.totalOut := rfl
@[simp] theorem coilsFedBy_ports : (coilsFedBy a s).ports = s.ports := rfl
@[simp] theorem coilsFedBy_powerQueue : (coilsFedBy a s).powerQueue = s.powerQueue := rfl
@[simp] theorem coilsFedBy_recency : (coilsFedBy a s).recency = s.recency := rfl
@[simp] theorem coilsFedBy_gates : (coilsFedBy a s).gates = s.gates := rfl
@[simp] theorem coilsFedBy_servicePending : (coilsFedBy a s).servicePending = s.servicePending := rfl
@[simp] theorem coilsFedBy_router : (coilsFedBy a s).router = s.router := rfl
@[simp] theorem coilsFedBy_resetPin : (coilsFedBy a s).resetPin = s.resetPin := rfl
@[simp] theorem coilsFedBy_cutover : (coilsFedBy a s).cutover = s.cutover := rfl
@[simp] theorem coilsFedBy_cabinet : (coilsFedBy a s).cabinet = s.cabinet := rfl
@[simp] theorem coilsFedBy_link : (coilsFedBy a s).link = s.link := rfl
@[simp] theorem coilsFedBy_events : (coilsFedBy a s).events = s.events := rfl
@[simp] theorem coilsFedBy_overflow : (coilsFedBy a s).overflow = s.overflow := rfl
@[simp] theorem coilsFedBy_freeCount : (coilsFedBy a s).freeCount = s.freeCount := rfl
@[simp] theorem coilsFedBy_port (q : PortNo) : (coilsFedBy a s).port q = s.port q := rfl
@[simp] theorem coilsFedBy_gate (u : Station) : (coilsFedBy a s).gate u = s.gate u := rfl
@[simp] theorem coilsFedBy_meter (m : MeterNo) : (coilsFedBy a s).meter m = s.meter m := rfl
@[simp] theorem coilsFedBy_balance (x : AccountNo) : (coilsFedBy a s).balance x = s.balance x := rfl
@[simp] theorem accountOf_coilsFedBy (j : Fin 4) : accountOf (coilsFedBy a s) j = accountOf s j := rfl

end

/-- The result of 01 R9 does not look at the coils, so it is the same before and after a re-evaluation. -/
@[simp] theorem coilWanted_coilOf (i j : ChuteNo) (s : State) : coilWanted (coilOf i s) j = coilWanted s j := by
  unfold coilWanted coilOf
  simp only [chute_modChute, overThreshold, modChute_settings, modChute_mode, modChute_balance, accountOf]
  split
  · next h => subst h; rfl
  · rfl

@[simp] theorem coilWanted_coilIfFed (a : AccountNo) (i j : ChuteNo) (s : State) :
    coilWanted (coilIfFed a i s) j = coilWanted s j := by
  unfold coilWanted coilIfFed
  simp only [chute_modChute, overThreshold, modChute_settings, modChute_mode, modChute_balance, accountOf]
  split
  · next h => subst h; rfl
  · rfl

theorem chute_coilOf (i j : ChuteNo) (s : State) :
    (coilOf i s).chute j = if j = i then { s.chute i with coil := coilWanted s i } else s.chute j :=
  chute_modChute i j _ s

theorem chute_coilIfFed (a : AccountNo) (i j : ChuteNo) (s : State) :
    (coilIfFed a i s).chute j =
      if j = i then { s.chute i with coil := if accountOf s i = a then coilWanted s i else (s.chute i).coil }
      else s.chute j := chute_modChute i j _ s

/-- All four coils show the result of 01 R9, and nothing else of a chute changes. -/
theorem chute_allCoils (i : ChuteNo) (s : State) : (allCoils s).chute i = { s.chute i with coil := coilWanted s i } := by
  unfold allCoils
  simp only [chute_coilOf, coilWanted_coilOf]
  fin_cases i <;> simp

/-- The coils that look at an account show the result of 01 R9, the others stay. -/
theorem chute_coilsFedBy (a : AccountNo) (i : ChuteNo) (s : State) :
    (coilsFedBy a s).chute i =
      { s.chute i with coil := if accountOf s i = a then coilWanted s i else (s.chute i).coil } := by
  unfold coilsFedBy
  simp only [chute_coilIfFed, coilWanted_coilIfFed, accountOf_coilIfFed]
  fin_cases i <;> simp

/-! ### The account store (02 R20 to R24) -/

theorem cappedBalance_le {b x : Nat} : cappedBalance b x ≤ Config.cap := by
  unfold cappedBalance
  split
  · assumption
  · exact Nat.le_refl _

/-- What a credit admits and what it loses make up what was given (02 R20). -/
theorem admitted_add_excess {b x : Nat} (h : b ≤ Config.cap) : admitted b x + excess b x = x := by
  unfold admitted excess
  split <;> omega

/-- A balance rises by what is admitted (02 R20). -/
theorem cappedBalance_eq {b x : Nat} (h : b ≤ Config.cap) : cappedBalance b x = b + admitted b x := by
  unfold cappedBalance admitted
  split <;> omega

/-- A credit changes the account, OVERFLOW TICKS, TOTAL IN and coils, and nothing else. -/
theorem credit_frame (a : AccountNo) (x : Nat) (s : State) :
    credit a x s =
      { s with
        accounts := setSlot s.accounts a (cappedBalance (s.balance a) x)
        cabinet := addOverflow (excess (s.balance a) x) s.cabinet
        totalIn := satAdd s.totalIn (admitted (s.balance a) x)
        chutes := (credit a x s).chutes } := rfl

/-- A charge changes the account, TICKS CHARGED and coils, and nothing else. -/
theorem charge_frame (p : PortNo) (a : AccountNo) (x : Nat) (s : State) :
    charge p a x s =
      { modAudits p (fun u => { u with ticksCharged := satAdd u.ticksCharged x }) s with
        accounts := setSlot s.accounts a (s.balance a - x)
        chutes := (charge p a x s).chutes } := rfl

@[simp] theorem refund_zero (p : PortNo) (a : AccountNo) (s : State) : refund p a 0 s = s := rfl

/-- A refund of money changes the account, TICKS REFUNDED, OVERFLOW TICKS, TOTAL OUT and coils, and nothing else. -/
theorem refund_frame (p : PortNo) (a : AccountNo) {x : Nat} (h : x ≠ 0) (s : State) :
    refund p a x s =
      { modAudits p (fun u => { u with ticksRefunded := satAdd u.ticksRefunded x }) s with
        accounts := setSlot s.accounts a (cappedBalance (s.balance a) x)
        cabinet := addOverflow (excess (s.balance a) x) s.cabinet
        totalOut := satAdd s.totalOut (excess (s.balance a) x)
        chutes := (refund p a x s).chutes } := by
  unfold refund
  rw [if_neg h]
  rfl

/-- Whatever its amount, a refund leaves all but accounts, cabinet audits, TOTAL OUT, ports and chutes. -/
theorem refund_keeps (p : PortNo) (a : AccountNo) (x : Nat) (s : State) :
    refund p a x s =
      { s with
        accounts := (refund p a x s).accounts
        cabinet := (refund p a x s).cabinet
        totalOut := (refund p a x s).totalOut
        ports := (refund p a x s).ports
        chutes := (refund p a x s).chutes } := by
  by_cases h : x = 0
  · subst h; rfl
  · rw [refund_frame p a h s]; rfl

/-! ### The meters' requests (01 R13, R14) -/

/-- A request leaves all but the meters, METER OVERFLOW and the event queue. -/
theorem meterRequest_frame (m : MeterNo) (n : Nat) (s : State) :
    meterRequest m n s =
      { s with
        meters := modSlot s.meters m (meterTake s.settings.meterOn n)
        cabinet := addMeterOverflow m ((s.meter m).pending + n - Config.meterMax) s.cabinet
        events := (meterRequest m n s).events
        overflow := (meterRequest m n s).overflow } := by
  unfold meterRequest
  dsimp only
  split <;> rfl

/-- A request keeps what fits of its increments. -/
theorem meterTake_pending (on n : Nat) (m : Meter) :
    (meterTake on n m).pending = min (m.pending + n) Config.meterMax := by
  unfold meterTake
  dsimp only
  split <;> split <;> simp_all [meterPulse] <;> omega

end Sys2Proof.Machine
end

