-- ==== Sys2Proof/Laws/Gates.lean ====
section
/-! SUPPORT. What the shared operations of the start gates leave of the state, field by field. -/

namespace Sys2Proof.Machine

/-! ### `credit` -/

section

variable (a : AccountNo) (x : Nat) (s : State)

@[simp] theorem credit_pending : (credit a x s).pending = s.pending := by
  rfl
@[simp] theorem credit_timeStamp : (credit a x s).timeStamp = s.timeStamp := by
  rfl
@[simp] theorem credit_mode : (credit a x s).mode = s.mode := by
  rfl
@[simp] theorem credit_straps : (credit a x s).straps = s.straps := by
  rfl
@[simp] theorem credit_settings : (credit a x s).settings = s.settings := by
  rfl
@[simp] theorem credit_meters : (credit a x s).meters = s.meters := by
  rfl
@[simp] theorem credit_totalOut : (credit a x s).totalOut = s.totalOut := by
  rfl
@[simp] theorem credit_ports : (credit a x s).ports = s.ports := by
  rfl
@[simp] theorem credit_powerQueue : (credit a x s).powerQueue = s.powerQueue := by
  rfl
@[simp] theorem credit_recency : (credit a x s).recency = s.recency := by
  rfl
@[simp] theorem credit_gates : (credit a x s).gates = s.gates := by
  rfl
@[simp] theorem credit_servicePending : (credit a x s).servicePending = s.servicePending := by
  rfl
@[simp] theorem credit_router : (credit a x s).router = s.router := by
  rfl
@[simp] theorem credit_resetPin : (credit a x s).resetPin = s.resetPin := by
  rfl
@[simp] theorem credit_cutover : (credit a x s).cutover = s.cutover := by
  rfl
@[simp] theorem credit_link : (credit a x s).link = s.link := by
  rfl
@[simp] theorem credit_events : (credit a x s).events = s.events := by
  rfl
@[simp] theorem credit_overflow : (credit a x s).overflow = s.overflow := by
  rfl
@[simp] theorem credit_freeCount : (credit a x s).freeCount = s.freeCount := by
  rfl

end

/-! ### `charge` -/

section

variable (p : PortNo) (a : AccountNo) (x : Nat) (s : State)

@[simp] theorem charge_pending : (charge p a x s).pending = s.pending := by
  rfl
@[simp] theorem charge_timeStamp : (charge p a x s).timeStamp = s.timeStamp := by
  rfl
@[simp] theorem charge_mode : (charge p a x s).mode = s.mode := by
  rfl
@[simp] theorem charge_straps : (charge p a x s).straps = s.straps := by
  rfl
@[simp] theorem charge_settings : (charge p a x s).settings = s.settings := by
  rfl
@[simp] theorem charge_meters : (charge p a x s).meters = s.meters := by
  rfl
@[simp] theorem charge_totalIn : (charge p a x s).totalIn = s.totalIn := by
  rfl
@[simp] theorem charge_totalOut : (charge p a x s).totalOut = s.totalOut := by
  rfl
@[simp] theorem charge_powerQueue : (charge p a x s).powerQueue = s.powerQueue := by
  rfl
@[simp] theorem charge_recency : (charge p a x s).recency = s.recency := by
  rfl
@[simp] theorem charge_gates : (charge p a x s).gates = s.gates := by
  rfl
@[simp] theorem charge_servicePending : (charge p a x s).servicePending = s.servicePending := by
  rfl
@[simp] theorem charge_router : (charge p a x s).router = s.router := by
  rfl
@[simp] theorem charge_resetPin : (charge p a x s).resetPin = s.resetPin := by
  rfl
@[simp] theorem charge_cutover : (charge p a x s).cutover = s.cutover := by
  rfl
@[simp] theorem charge_cabinet : (charge p a x s).cabinet = s.cabinet := by
  rfl
@[simp] theorem charge_link : (charge p a x s).link = s.link := by
  rfl
@[simp] theorem charge_events : (charge p a x s).events = s.events := by
  rfl
@[simp] theorem charge_overflow : (charge p a x s).overflow = s.overflow := by
  rfl
@[simp] theorem charge_freeCount : (charge p a x s).freeCount = s.freeCount := by
  rfl

end

/-! ### `refund` -/

section

variable (p : PortNo) (a : AccountNo) (x : Nat) (s : State)

@[simp] theorem refund_pending : (refund p a x s).pending = s.pending := by
  rw [refund_keeps]
@[simp] theorem refund_timeStamp : (refund p a x s).timeStamp = s.timeStamp := by
  rw [refund_keeps]
@[simp] theorem refund_mode : (refund p a x s).mode = s.mode := by
  rw [refund_keeps]
@[simp] theorem refund_straps : (refund p a x s).straps = s.straps := by
  rw [refund_keeps]
@[simp] theorem refund_settings : (refund p a x s).settings = s.settings := by
  rw [refund_keeps]
@[simp] theorem refund_meters : (refund p a x s).meters = s.meters := by
  rw [refund_keeps]
@[simp] theorem refund_totalIn : (refund p a x s).totalIn = s.totalIn := by
  rw [refund_keeps]
@[simp] theorem refund_powerQueue : (refund p a x s).powerQueue = s.powerQueue := by
  rw [refund_keeps]
@[simp] theorem refund_recency : (refund p a x s).recency = s.recency := by
  rw [refund_keeps]
@[simp] theorem refund_gates : (refund p a x s).gates = s.gates := by
  rw [refund_keeps]
@[simp] theorem refund_servicePending : (refund p a x s).servicePending = s.servicePending := by
  rw [refund_keeps]
@[simp] theorem refund_router : (refund p a x s).router = s.router := by
  rw [refund_keeps]
@[simp] theorem refund_resetPin : (refund p a x s).resetPin = s.resetPin := by
  rw [refund_keeps]
@[simp] theorem refund_cutover : (refund p a x s).cutover = s.cutover := by
  rw [refund_keeps]
@[simp] theorem refund_link : (refund p a x s).link = s.link := by
  rw [refund_keeps]
@[simp] theorem refund_events : (refund p a x s).events = s.events := by
  rw [refund_keeps]
@[simp] theorem refund_overflow : (refund p a x s).overflow = s.overflow := by
  rw [refund_keeps]
@[simp] theorem refund_freeCount : (refund p a x s).freeCount = s.freeCount := by
  rw [refund_keeps]

end

/-! ### `meterRequest` -/

section

variable (m : MeterNo) (n : Nat) (s : State)

@[simp] theorem meterRequest_pending : (meterRequest m n s).pending = s.pending := by
  rw [meterRequest_frame]
@[simp] theorem meterRequest_timeStamp : (meterRequest m n s).timeStamp = s.timeStamp := by
  rw [meterRequest_frame]
@[simp] theorem meterRequest_mode : (meterRequest m n s).mode = s.mode := by
  rw [meterRequest_frame]
@[simp] theorem meterRequest_straps : (meterRequest m n s).straps = s.straps := by
  rw [meterRequest_frame]
@[simp] theorem meterRequest_settings : (meterRequest m n s).settings = s.settings := by
  rw [meterRequest_frame]
@[simp] theorem meterRequest_chutes : (meterRequest m n s).chutes = s.chutes := by
  rw [meterRequest_frame]
@[simp] theorem meterRequest_accounts : (meterRequest m n s).accounts = s.accounts := by
  rw [meterRequest_frame]
@[simp] theorem meterRequest_totalIn : (meterRequest m n s).totalIn = s.totalIn := by
  rw [meterRequest_frame]
@[simp] theorem meterRequest_totalOut : (meterRequest m n s).totalOut = s.totalOut := by
  rw [meterRequest_frame]
@[simp] theorem meterRequest_ports : (meterRequest m n s).ports = s.ports := by
  rw [meterRequest_frame]
@[simp] theorem meterRequest_powerQueue : (meterRequest m n s).powerQueue = s.powerQueue := by
  rw [meterRequest_frame]
@[simp] theorem meterRequest_recency : (meterRequest m n s).recency = s.recency := by
  rw [meterRequest_frame]
@[simp] theorem meterRequest_gates : (meterRequest m n s).gates = s.gates := by
  rw [meterRequest_frame]
@[simp] theorem meterRequest_servicePending : (meterRequest m n s).servicePending = s.servicePending := by
  rw [meterRequest_frame]
@[simp] theorem meterRequest_router : (meterRequest m n s).router = s.router := by
  rw [meterRequest_frame]
@[simp] theorem meterRequest_resetPin : (meterRequest m n s).resetPin = s.resetPin := by
  rw [meterRequest_frame]
@[simp] theorem meterRequest_cutover : (meterRequest m n s).cutover = s.cutover := by
  rw [meterRequest_frame]
@[simp] theorem meterRequest_link : (meterRequest m n s).link = s.link := by
  rw [meterRequest_frame]
@[simp] theorem meterRequest_freeCount : (meterRequest m n s).freeCount = s.freeCount := by
  rw [meterRequest_frame]

end

/-! ### `beginPulse` -/

section

variable (t : Station) (s : State)

@[simp] theorem beginPulse_pending : (beginPulse t s).pending = s.pending := by
  rfl
@[simp] theorem beginPulse_timeStamp : (beginPulse t s).timeStamp = s.timeStamp := by
  rfl
@[simp] theorem beginPulse_mode : (beginPulse t s).mode = s.mode := by
  rfl
@[simp] theorem beginPulse_straps : (beginPulse t s).straps = s.straps := by
  rfl
@[simp] theorem beginPulse_settings : (beginPulse t s).settings = s.settings := by
  rfl
@[simp] theorem beginPulse_chutes : (beginPulse t s).chutes = s.chutes := by
  rfl
@[simp] theorem beginPulse_meters : (beginPulse t s).meters = s.meters := by
  rfl
@[simp] theorem beginPulse_accounts : (beginPulse t s).accounts = s.accounts := by
  rfl
@[simp] theorem beginPulse_totalIn : (beginPulse t s).totalIn = s.totalIn := by
  rfl
@[simp] theorem beginPulse_totalOut : (beginPulse t s).totalOut = s.totalOut := by
  rfl
@[simp] theorem beginPulse_ports : (beginPulse t s).ports = s.ports := by
  rfl
@[simp] theorem beginPulse_powerQueue : (beginPulse t s).powerQueue = s.powerQueue := by
  rfl
@[simp] theorem beginPulse_recency : (beginPulse t s).recency = s.recency := by
  rfl
@[simp] theorem beginPulse_servicePending : (beginPulse t s).servicePending = s.servicePending := by
  rfl
@[simp] theorem beginPulse_router : (beginPulse t s).router = s.router := by
  rfl
@[simp] theorem beginPulse_resetPin : (beginPulse t s).resetPin = s.resetPin := by
  rfl
@[simp] theorem beginPulse_cutover : (beginPulse t s).cutover = s.cutover := by
  rfl
@[simp] theorem beginPulse_cabinet : (beginPulse t s).cabinet = s.cabinet := by
  rfl
@[simp] theorem beginPulse_link : (beginPulse t s).link = s.link := by
  rfl
@[simp] theorem beginPulse_events : (beginPulse t s).events = s.events := by
  rfl
@[simp] theorem beginPulse_overflow : (beginPulse t s).overflow = s.overflow := by
  rfl
@[simp] theorem beginPulse_freeCount : (beginPulse t s).freeCount = s.freeCount := by
  rfl

end

/-! ### `considerPulse` -/

section

variable (t : Station) (s : State)

@[simp] theorem considerPulse_pending : (considerPulse t s).pending = s.pending := by
  unfold considerPulse; (repeat' split) <;> simp
@[simp] theorem considerPulse_timeStamp : (considerPulse t s).timeStamp = s.timeStamp := by
  unfold considerPulse; (repeat' split) <;> simp
@[simp] theorem considerPulse_mode : (considerPulse t s).mode = s.mode := by
  unfold considerPulse; (repeat' split) <;> simp
@[simp] theorem considerPulse_straps : (considerPulse t s).straps = s.straps := by
  unfold considerPulse; (repeat' split) <;> simp
@[simp] theorem considerPulse_settings : (considerPulse t s).settings = s.settings := by
  unfold considerPulse; (repeat' split) <;> simp
@[simp] theorem considerPulse_chutes : (considerPulse t s).chutes = s.chutes := by
  unfold considerPulse; (repeat' split) <;> simp
@[simp] theorem considerPulse_meters : (considerPulse t s).meters = s.meters := by
  unfold considerPulse; (repeat' split) <;> simp
@[simp] theorem considerPulse_accounts : (considerPulse t s).accounts = s.accounts := by
  unfold considerPulse; (repeat' split) <;> simp
@[simp] theorem considerPulse_totalIn : (considerPulse t s).totalIn = s.totalIn := by
  unfold considerPulse; (repeat' split) <;> simp
@[simp] theorem considerPulse_totalOut : (considerPulse t s).totalOut = s.totalOut := by
  unfold considerPulse; (repeat' split) <;> simp
@[simp] theorem considerPulse_ports : (considerPulse t s).ports = s.ports := by
  unfold considerPulse; (repeat' split) <;> simp
@[simp] theorem considerPulse_powerQueue : (considerPulse t s).powerQueue = s.powerQueue := by
  unfold considerPulse; (repeat' split) <;> simp
@[simp] theorem considerPulse_recency : (considerPulse t s).recency = s.recency := by
  unfold considerPulse; (repeat' split) <;> simp
@[simp] theorem considerPulse_servicePending : (considerPulse t s).servicePending = s.servicePending := by
  unfold considerPulse; (repeat' split) <;> simp
@[simp] theorem considerPulse_router : (considerPulse t s).router = s.router := by
  unfold considerPulse; (repeat' split) <;> simp
@[simp] theorem considerPulse_resetPin : (considerPulse t s).resetPin = s.resetPin := by
  unfold considerPulse; (repeat' split) <;> simp
@[simp] theorem considerPulse_cutover : (considerPulse t s).cutover = s.cutover := by
  unfold considerPulse; (repeat' split) <;> simp
@[simp] theorem considerPulse_cabinet : (considerPulse t s).cabinet = s.cabinet := by
  unfold considerPulse; (repeat' split) <;> simp
@[simp] theorem considerPulse_link : (considerPulse t s).link = s.link := by
  unfold considerPulse; (repeat' split) <;> simp
@[simp] theorem considerPulse_events : (considerPulse t s).events = s.events := by
  unfold considerPulse; (repeat' split) <;> simp
@[simp] theorem considerPulse_overflow : (considerPulse t s).overflow = s.overflow := by
  unfold considerPulse; (repeat' split) <;> simp
@[simp] theorem considerPulse_freeCount : (considerPulse t s).freeCount = s.freeCount := by
  unfold considerPulse; (repeat' split) <;> simp

end

/-! ### `modArbiter` -/

section

variable (pl : Place) (f : Arbiter → Arbiter) (s : State)

@[simp] theorem modArbiter_pending : (modArbiter pl f s).pending = s.pending := by
  rfl
@[simp] theorem modArbiter_timeStamp : (modArbiter pl f s).timeStamp = s.timeStamp := by
  rfl
@[simp] theorem modArbiter_mode : (modArbiter pl f s).mode = s.mode := by
  rfl
@[simp] theorem modArbiter_straps : (modArbiter pl f s).straps = s.straps := by
  rfl
@[simp] theorem modArbiter_settings : (modArbiter pl f s).settings = s.settings := by
  rfl
@[simp] theorem modArbiter_chutes : (modArbiter pl f s).chutes = s.chutes := by
  rfl
@[simp] theorem modArbiter_meters : (modArbiter pl f s).meters = s.meters := by
  rfl
@[simp] theorem modArbiter_accounts : (modArbiter pl f s).accounts = s.accounts := by
  rfl
@[simp] theorem modArbiter_totalIn : (modArbiter pl f s).totalIn = s.totalIn := by
  rfl
@[simp] theorem modArbiter_totalOut : (modArbiter pl f s).totalOut = s.totalOut := by
  rfl
@[simp] theorem modArbiter_powerQueue : (modArbiter pl f s).powerQueue = s.powerQueue := by
  rfl
@[simp] theorem modArbiter_recency : (modArbiter pl f s).recency = s.recency := by
  rfl
@[simp] theorem modArbiter_gates : (modArbiter pl f s).gates = s.gates := by
  rfl
@[simp] theorem modArbiter_servicePending : (modArbiter pl f s).servicePending = s.servicePending := by
  rfl
@[simp] theorem modArbiter_router : (modArbiter pl f s).router = s.router := by
  rfl
@[simp] theorem modArbiter_resetPin : (modArbiter pl f s).resetPin = s.resetPin := by
  rfl
@[simp] theorem modArbiter_cutover : (modArbiter pl f s).cutover = s.cutover := by
  rfl
@[simp] theorem modArbiter_cabinet : (modArbiter pl f s).cabinet = s.cabinet := by
  rfl
@[simp] theorem modArbiter_link : (modArbiter pl f s).link = s.link := by
  rfl
@[simp] theorem modArbiter_events : (modArbiter pl f s).events = s.events := by
  rfl
@[simp] theorem modArbiter_overflow : (modArbiter pl f s).overflow = s.overflow := by
  rfl
@[simp] theorem modArbiter_freeCount : (modArbiter pl f s).freeCount = s.freeCount := by
  rfl

end

/-! ### `modCounter` -/

section

variable (pl : Place) (f : Counter → Counter) (s : State)

@[simp] theorem modCounter_pending : (modCounter pl f s).pending = s.pending := by
  rfl
@[simp] theorem modCounter_timeStamp : (modCounter pl f s).timeStamp = s.timeStamp := by
  rfl
@[simp] theorem modCounter_mode : (modCounter pl f s).mode = s.mode := by
  rfl
@[simp] theorem modCounter_straps : (modCounter pl f s).straps = s.straps := by
  rfl
@[simp] theorem modCounter_settings : (modCounter pl f s).settings = s.settings := by
  rfl
@[simp] theorem modCounter_chutes : (modCounter pl f s).chutes = s.chutes := by
  rfl
@[simp] theorem modCounter_meters : (modCounter pl f s).meters = s.meters := by
  rfl
@[simp] theorem modCounter_accounts : (modCounter pl f s).accounts = s.accounts := by
  rfl
@[simp] theorem modCounter_totalIn : (modCounter pl f s).totalIn = s.totalIn := by
  rfl
@[simp] theorem modCounter_totalOut : (modCounter pl f s).totalOut = s.totalOut := by
  rfl
@[simp] theorem modCounter_powerQueue : (modCounter pl f s).powerQueue = s.powerQueue := by
  rfl
@[simp] theorem modCounter_recency : (modCounter pl f s).recency = s.recency := by
  rfl
@[simp] theorem modCounter_gates : (modCounter pl f s).gates = s.gates := by
  rfl
@[simp] theorem modCounter_servicePending : (modCounter pl f s).servicePending = s.servicePending := by
  rfl
@[simp] theorem modCounter_router : (modCounter pl f s).router = s.router := by
  rfl
@[simp] theorem modCounter_resetPin : (modCounter pl f s).resetPin = s.resetPin := by
  rfl
@[simp] theorem modCounter_cutover : (modCounter pl f s).cutover = s.cutover := by
  rfl
@[simp] theorem modCounter_cabinet : (modCounter pl f s).cabinet = s.cabinet := by
  rfl
@[simp] theorem modCounter_link : (modCounter pl f s).link = s.link := by
  rfl
@[simp] theorem modCounter_events : (modCounter pl f s).events = s.events := by
  rfl
@[simp] theorem modCounter_overflow : (modCounter pl f s).overflow = s.overflow := by
  rfl
@[simp] theorem modCounter_freeCount : (modCounter pl f s).freeCount = s.freeCount := by
  rfl

end

/-! ### `grantLine` -/

section

variable (pl : Place) (t : Station) (s : State)

@[simp] theorem grantLine_pending : (grantLine pl t s).pending = s.pending := by
  unfold grantLine; simp
@[simp] theorem grantLine_timeStamp : (grantLine pl t s).timeStamp = s.timeStamp := by
  unfold grantLine; simp
@[simp] theorem grantLine_mode : (grantLine pl t s).mode = s.mode := by
  unfold grantLine; simp
@[simp] theorem grantLine_straps : (grantLine pl t s).straps = s.straps := by
  unfold grantLine; simp
@[simp] theorem grantLine_settings : (grantLine pl t s).settings = s.settings := by
  unfold grantLine; simp
@[simp] theorem grantLine_chutes : (grantLine pl t s).chutes = s.chutes := by
  unfold grantLine; simp
@[simp] theorem grantLine_meters : (grantLine pl t s).meters = s.meters := by
  unfold grantLine; simp
@[simp] theorem grantLine_accounts : (grantLine pl t s).accounts = s.accounts := by
  unfold grantLine; simp
@[simp] theorem grantLine_totalIn : (grantLine pl t s).totalIn = s.totalIn := by
  unfold grantLine; simp
@[simp] theorem grantLine_totalOut : (grantLine pl t s).totalOut = s.totalOut := by
  unfold grantLine; simp
@[simp] theorem grantLine_powerQueue : (grantLine pl t s).powerQueue = s.powerQueue := by
  unfold grantLine; simp
@[simp] theorem grantLine_recency : (grantLine pl t s).recency = s.recency := by
  unfold grantLine; simp
@[simp] theorem grantLine_servicePending : (grantLine pl t s).servicePending = s.servicePending := by
  unfold grantLine; simp
@[simp] theorem grantLine_router : (grantLine pl t s).router = s.router := by
  unfold grantLine; simp
@[simp] theorem grantLine_resetPin : (grantLine pl t s).resetPin = s.resetPin := by
  unfold grantLine; simp
@[simp] theorem grantLine_cutover : (grantLine pl t s).cutover = s.cutover := by
  unfold grantLine; simp
@[simp] theorem grantLine_cabinet : (grantLine pl t s).cabinet = s.cabinet := by
  unfold grantLine; simp
@[simp] theorem grantLine_link : (grantLine pl t s).link = s.link := by
  unfold grantLine; simp
@[simp] theorem grantLine_events : (grantLine pl t s).events = s.events := by
  unfold grantLine; simp
@[simp] theorem grantLine_overflow : (grantLine pl t s).overflow = s.overflow := by
  unfold grantLine; simp
@[simp] theorem grantLine_freeCount : (grantLine pl t s).freeCount = s.freeCount := by
  unfold grantLine; simp

end

/-! ### `requestLine` -/

section

variable (pl : Place) (t : Station) (s : State)

@[simp] theorem requestLine_pending : (requestLine pl t s).pending = s.pending := by
  unfold requestLine; (repeat' split) <;> simp
@[simp] theorem requestLine_timeStamp : (requestLine pl t s).timeStamp = s.timeStamp := by
  unfold requestLine; (repeat' split) <;> simp
@[simp] theorem requestLine_mode : (requestLine pl t s).mode = s.mode := by
  unfold requestLine; (repeat' split) <;> simp
@[simp] theorem requestLine_straps : (requestLine pl t s).straps = s.straps := by
  unfold requestLine; (repeat' split) <;> simp
@[simp] theorem requestLine_settings : (requestLine pl t s).settings = s.settings := by
  unfold requestLine; (repeat' split) <;> simp
@[simp] theorem requestLine_chutes : (requestLine pl t s).chutes = s.chutes := by
  unfold requestLine; (repeat' split) <;> simp
@[simp] theorem requestLine_meters : (requestLine pl t s).meters = s.meters := by
  unfold requestLine; (repeat' split) <;> simp
@[simp] theorem requestLine_accounts : (requestLine pl t s).accounts = s.accounts := by
  unfold requestLine; (repeat' split) <;> simp
@[simp] theorem requestLine_totalIn : (requestLine pl t s).totalIn = s.totalIn := by
  unfold requestLine; (repeat' split) <;> simp
@[simp] theorem requestLine_totalOut : (requestLine pl t s).totalOut = s.totalOut := by
  unfold requestLine; (repeat' split) <;> simp
@[simp] theorem requestLine_powerQueue : (requestLine pl t s).powerQueue = s.powerQueue := by
  unfold requestLine; (repeat' split) <;> simp
@[simp] theorem requestLine_recency : (requestLine pl t s).recency = s.recency := by
  unfold requestLine; (repeat' split) <;> simp
@[simp] theorem requestLine_servicePending : (requestLine pl t s).servicePending = s.servicePending := by
  unfold requestLine; (repeat' split) <;> simp
@[simp] theorem requestLine_router : (requestLine pl t s).router = s.router := by
  unfold requestLine; (repeat' split) <;> simp
@[simp] theorem requestLine_resetPin : (requestLine pl t s).resetPin = s.resetPin := by
  unfold requestLine; (repeat' split) <;> simp
@[simp] theorem requestLine_cutover : (requestLine pl t s).cutover = s.cutover := by
  unfold requestLine; (repeat' split) <;> simp
@[simp] theorem requestLine_cabinet : (requestLine pl t s).cabinet = s.cabinet := by
  unfold requestLine; (repeat' split) <;> simp
@[simp] theorem requestLine_link : (requestLine pl t s).link = s.link := by
  unfold requestLine; (repeat' split) <;> simp
@[simp] theorem requestLine_events : (requestLine pl t s).events = s.events := by
  unfold requestLine; (repeat' split) <;> simp
@[simp] theorem requestLine_overflow : (requestLine pl t s).overflow = s.overflow := by
  unfold requestLine; (repeat' split) <;> simp
@[simp] theorem requestLine_freeCount : (requestLine pl t s).freeCount = s.freeCount := by
  unfold requestLine; (repeat' split) <;> simp

end

/-! ### `releaseLine` -/

section

variable (pl : Place) (s : State)

@[simp] theorem releaseLine_pending : (releaseLine pl s).pending = s.pending := by
  unfold releaseLine; (repeat' split) <;> simp
@[simp] theorem releaseLine_timeStamp : (releaseLine pl s).timeStamp = s.timeStamp := by
  unfold releaseLine; (repeat' split) <;> simp
@[simp] theorem releaseLine_mode : (releaseLine pl s).mode = s.mode := by
  unfold releaseLine; (repeat' split) <;> simp
@[simp] theorem releaseLine_straps : (releaseLine pl s).straps = s.straps := by
  unfold releaseLine; (repeat' split) <;> simp
@[simp] theorem releaseLine_settings : (releaseLine pl s).settings = s.settings := by
  unfold releaseLine; (repeat' split) <;> simp
@[simp] theorem releaseLine_chutes : (releaseLine pl s).chutes = s.chutes := by
  unfold releaseLine; (repeat' split) <;> simp
@[simp] theorem releaseLine_meters : (releaseLine pl s).meters = s.meters := by
  unfold releaseLine; (repeat' split) <;> simp
@[simp] theorem releaseLine_accounts : (releaseLine pl s).accounts = s.accounts := by
  unfold releaseLine; (repeat' split) <;> simp
@[simp] theorem releaseLine_totalIn : (releaseLine pl s).totalIn = s.totalIn := by
  unfold releaseLine; (repeat' split) <;> simp
@[simp] theorem releaseLine_totalOut : (releaseLine pl s).totalOut = s.totalOut := by
  unfold releaseLine; (repeat' split) <;> simp
@[simp] theorem releaseLine_powerQueue : (releaseLine pl s).powerQueue = s.powerQueue := by
  unfold releaseLine; (repeat' split) <;> simp
@[simp] theorem releaseLine_recency : (releaseLine pl s).recency = s.recency := by
  unfold releaseLine; (repeat' split) <;> simp
@[simp] theorem releaseLine_servicePending : (releaseLine pl s).servicePending = s.servicePending := by
  unfold releaseLine; (repeat' split) <;> simp
@[simp] theorem releaseLine_router : (releaseLine pl s).router = s.router := by
  unfold releaseLine; (repeat' split) <;> simp
@[simp] theorem releaseLine_resetPin : (releaseLine pl s).resetPin = s.resetPin := by
  unfold releaseLine; (repeat' split) <;> simp
@[simp] theorem releaseLine_cutover : (releaseLine pl s).cutover = s.cutover := by
  unfold releaseLine; (repeat' split) <;> simp
@[simp] theorem releaseLine_cabinet : (releaseLine pl s).cabinet = s.cabinet := by
  unfold releaseLine; (repeat' split) <;> simp
@[simp] theorem releaseLine_link : (releaseLine pl s).link = s.link := by
  unfold releaseLine; (repeat' split) <;> simp
@[simp] theorem releaseLine_events : (releaseLine pl s).events = s.events := by
  unfold releaseLine; (repeat' split) <;> simp
@[simp] theorem releaseLine_overflow : (releaseLine pl s).overflow = s.overflow := by
  unfold releaseLine; (repeat' split) <;> simp
@[simp] theorem releaseLine_freeCount : (releaseLine pl s).freeCount = s.freeCount := by
  unfold releaseLine; (repeat' split) <;> simp

end

/-! ### `withdrawFromLine` -/

section

variable (pl : Place) (t : Station) (s : State)

@[simp] theorem withdrawFromLine_pending : (withdrawFromLine pl t s).pending = s.pending := by
  rfl
@[simp] theorem withdrawFromLine_timeStamp : (withdrawFromLine pl t s).timeStamp = s.timeStamp := by
  rfl
@[simp] theorem withdrawFromLine_mode : (withdrawFromLine pl t s).mode = s.mode := by
  rfl
@[simp] theorem withdrawFromLine_straps : (withdrawFromLine pl t s).straps = s.straps := by
  rfl
@[simp] theorem withdrawFromLine_settings : (withdrawFromLine pl t s).settings = s.settings := by
  rfl
@[simp] theorem withdrawFromLine_chutes : (withdrawFromLine pl t s).chutes = s.chutes := by
  rfl
@[simp] theorem withdrawFromLine_meters : (withdrawFromLine pl t s).meters = s.meters := by
  rfl
@[simp] theorem withdrawFromLine_accounts : (withdrawFromLine pl t s).accounts = s.accounts := by
  rfl
@[simp] theorem withdrawFromLine_totalIn : (withdrawFromLine pl t s).totalIn = s.totalIn := by
  rfl
@[simp] theorem withdrawFromLine_totalOut : (withdrawFromLine pl t s).totalOut = s.totalOut := by
  rfl
@[simp] theorem withdrawFromLine_powerQueue : (withdrawFromLine pl t s).powerQueue = s.powerQueue := by
  rfl
@[simp] theorem withdrawFromLine_recency : (withdrawFromLine pl t s).recency = s.recency := by
  rfl
@[simp] theorem withdrawFromLine_gates : (withdrawFromLine pl t s).gates = s.gates := by
  rfl
@[simp] theorem withdrawFromLine_servicePending : (withdrawFromLine pl t s).servicePending = s.servicePending := by
  rfl
@[simp] theorem withdrawFromLine_router : (withdrawFromLine pl t s).router = s.router := by
  rfl
@[simp] theorem withdrawFromLine_resetPin : (withdrawFromLine pl t s).resetPin = s.resetPin := by
  rfl
@[simp] theorem withdrawFromLine_cutover : (withdrawFromLine pl t s).cutover = s.cutover := by
  rfl
@[simp] theorem withdrawFromLine_cabinet : (withdrawFromLine pl t s).cabinet = s.cabinet := by
  rfl
@[simp] theorem withdrawFromLine_link : (withdrawFromLine pl t s).link = s.link := by
  rfl
@[simp] theorem withdrawFromLine_events : (withdrawFromLine pl t s).events = s.events := by
  rfl
@[simp] theorem withdrawFromLine_overflow : (withdrawFromLine pl t s).overflow = s.overflow := by
  rfl
@[simp] theorem withdrawFromLine_freeCount : (withdrawFromLine pl t s).freeCount = s.freeCount := by
  rfl

end

/-! ### `completeBundle` -/

section

variable (t : Station) (s : State)

@[simp] theorem completeBundle_pending : (completeBundle t s).pending = s.pending := by
  rfl
@[simp] theorem completeBundle_timeStamp : (completeBundle t s).timeStamp = s.timeStamp := by
  rfl
@[simp] theorem completeBundle_mode : (completeBundle t s).mode = s.mode := by
  rfl
@[simp] theorem completeBundle_straps : (completeBundle t s).straps = s.straps := by
  rfl
@[simp] theorem completeBundle_settings : (completeBundle t s).settings = s.settings := by
  rfl
@[simp] theorem completeBundle_chutes : (completeBundle t s).chutes = s.chutes := by
  rfl
@[simp] theorem completeBundle_meters : (completeBundle t s).meters = s.meters := by
  rfl
@[simp] theorem completeBundle_accounts : (completeBundle t s).accounts = s.accounts := by
  rfl
@[simp] theorem completeBundle_totalIn : (completeBundle t s).totalIn = s.totalIn := by
  rfl
@[simp] theorem completeBundle_totalOut : (completeBundle t s).totalOut = s.totalOut := by
  rfl
@[simp] theorem completeBundle_powerQueue : (completeBundle t s).powerQueue = s.powerQueue := by
  rfl
@[simp] theorem completeBundle_recency : (completeBundle t s).recency = s.recency := by
  rfl
@[simp] theorem completeBundle_servicePending : (completeBundle t s).servicePending = s.servicePending := by
  rfl
@[simp] theorem completeBundle_router : (completeBundle t s).router = s.router := by
  rfl
@[simp] theorem completeBundle_resetPin : (completeBundle t s).resetPin = s.resetPin := by
  rfl
@[simp] theorem completeBundle_cutover : (completeBundle t s).cutover = s.cutover := by
  rfl
@[simp] theorem completeBundle_cabinet : (completeBundle t s).cabinet = s.cabinet := by
  rfl
@[simp] theorem completeBundle_link : (completeBundle t s).link = s.link := by
  rfl
@[simp] theorem completeBundle_events : (completeBundle t s).events = s.events := by
  rfl
@[simp] theorem completeBundle_overflow : (completeBundle t s).overflow = s.overflow := by
  rfl
@[simp] theorem completeBundle_freeCount : (completeBundle t s).freeCount = s.freeCount := by
  rfl

end

/-! ### `enterPressing` -/

section

variable (t : Station) (s : State)

@[simp] theorem enterPressing_pending : (enterPressing t s).pending = s.pending := by
  unfold enterPressing; simp
@[simp] theorem enterPressing_timeStamp : (enterPressing t s).timeStamp = s.timeStamp := by
  unfold enterPressing; simp
@[simp] theorem enterPressing_mode : (enterPressing t s).mode = s.mode := by
  unfold enterPressing; simp
@[simp] theorem enterPressing_straps : (enterPressing t s).straps = s.straps := by
  unfold enterPressing; simp
@[simp] theorem enterPressing_settings : (enterPressing t s).settings = s.settings := by
  unfold enterPressing; simp
@[simp] theorem enterPressing_chutes : (enterPressing t s).chutes = s.chutes := by
  unfold enterPressing; simp
@[simp] theorem enterPressing_accounts : (enterPressing t s).accounts = s.accounts := by
  unfold enterPressing; simp
@[simp] theorem enterPressing_totalIn : (enterPressing t s).totalIn = s.totalIn := by
  unfold enterPressing; simp
@[simp] theorem enterPressing_powerQueue : (enterPressing t s).powerQueue = s.powerQueue := by
  unfold enterPressing; simp
@[simp] theorem enterPressing_recency : (enterPressing t s).recency = s.recency := by
  unfold enterPressing; simp
@[simp] theorem enterPressing_servicePending : (enterPressing t s).servicePending = s.servicePending := by
  unfold enterPressing; simp
@[simp] theorem enterPressing_router : (enterPressing t s).router = s.router := by
  unfold enterPressing; simp
@[simp] theorem enterPressing_resetPin : (enterPressing t s).resetPin = s.resetPin := by
  unfold enterPressing; simp
@[simp] theorem enterPressing_cutover : (enterPressing t s).cutover = s.cutover := by
  unfold enterPressing; simp
@[simp] theorem enterPressing_link : (enterPressing t s).link = s.link := by
  unfold enterPressing; simp
@[simp] theorem enterPressing_freeCount : (enterPressing t s).freeCount = s.freeCount := by
  unfold enterPressing; simp

end

/-! ### `clearGate` -/

section

variable (t : Station) (s : State)

@[simp] theorem clearGate_pending : (clearGate t s).pending = s.pending := by
  rfl
@[simp] theorem clearGate_timeStamp : (clearGate t s).timeStamp = s.timeStamp := by
  rfl
@[simp] theorem clearGate_mode : (clearGate t s).mode = s.mode := by
  rfl
@[simp] theorem clearGate_straps : (clearGate t s).straps = s.straps := by
  rfl
@[simp] theorem clearGate_settings : (clearGate t s).settings = s.settings := by
  rfl
@[simp] theorem clearGate_chutes : (clearGate t s).chutes = s.chutes := by
  rfl
@[simp] theorem clearGate_meters : (clearGate t s).meters = s.meters := by
  rfl
@[simp] theorem clearGate_accounts : (clearGate t s).accounts = s.accounts := by
  rfl
@[simp] theorem clearGate_totalIn : (clearGate t s).totalIn = s.totalIn := by
  rfl
@[simp] theorem clearGate_totalOut : (clearGate t s).totalOut = s.totalOut := by
  rfl
@[simp] theorem clearGate_ports : (clearGate t s).ports = s.ports := by
  rfl
@[simp] theorem clearGate_powerQueue : (clearGate t s).powerQueue = s.powerQueue := by
  rfl
@[simp] theorem clearGate_recency : (clearGate t s).recency = s.recency := by
  rfl
@[simp] theorem clearGate_servicePending : (clearGate t s).servicePending = s.servicePending := by
  rfl
@[simp] theorem clearGate_router : (clearGate t s).router = s.router := by
  rfl
@[simp] theorem clearGate_resetPin : (clearGate t s).resetPin = s.resetPin := by
  rfl
@[simp] theorem clearGate_cutover : (clearGate t s).cutover = s.cutover := by
  rfl
@[simp] theorem clearGate_cabinet : (clearGate t s).cabinet = s.cabinet := by
  rfl
@[simp] theorem clearGate_link : (clearGate t s).link = s.link := by
  rfl
@[simp] theorem clearGate_events : (clearGate t s).events = s.events := by
  rfl
@[simp] theorem clearGate_overflow : (clearGate t s).overflow = s.overflow := by
  rfl
@[simp] theorem clearGate_freeCount : (clearGate t s).freeCount = s.freeCount := by
  rfl

end

/-! ### `expectPulses` -/

section

variable (p : PortNo) (m : OutputNo) (t : Station) (n : Nat) (s : State)

@[simp] theorem expectPulses_pending : (expectPulses p m t n s).pending = s.pending := by
  rfl
@[simp] theorem expectPulses_timeStamp : (expectPulses p m t n s).timeStamp = s.timeStamp := by
  rfl
@[simp] theorem expectPulses_mode : (expectPulses p m t n s).mode = s.mode := by
  rfl
@[simp] theorem expectPulses_straps : (expectPulses p m t n s).straps = s.straps := by
  rfl
@[simp] theorem expectPulses_settings : (expectPulses p m t n s).settings = s.settings := by
  rfl
@[simp] theorem expectPulses_chutes : (expectPulses p m t n s).chutes = s.chutes := by
  rfl
@[simp] theorem expectPulses_meters : (expectPulses p m t n s).meters = s.meters := by
  rfl
@[simp] theorem expectPulses_accounts : (expectPulses p m t n s).accounts = s.accounts := by
  rfl
@[simp] theorem expectPulses_totalIn : (expectPulses p m t n s).totalIn = s.totalIn := by
  rfl
@[simp] theorem expectPulses_totalOut : (expectPulses p m t n s).totalOut = s.totalOut := by
  rfl
@[simp] theorem expectPulses_powerQueue : (expectPulses p m t n s).powerQueue = s.powerQueue := by
  rfl
@[simp] theorem expectPulses_recency : (expectPulses p m t n s).recency = s.recency := by
  rfl
@[simp] theorem expectPulses_gates : (expectPulses p m t n s).gates = s.gates := by
  rfl
@[simp] theorem expectPulses_servicePending : (expectPulses p m t n s).servicePending = s.servicePending := by
  rfl
@[simp] theorem expectPulses_router : (expectPulses p m t n s).router = s.router := by
  rfl
@[simp] theorem expectPulses_resetPin : (expectPulses p m t n s).resetPin = s.resetPin := by
  rfl
@[simp] theorem expectPulses_cutover : (expectPulses p m t n s).cutover = s.cutover := by
  rfl
@[simp] theorem expectPulses_cabinet : (expectPulses p m t n s).cabinet = s.cabinet := by
  rfl
@[simp] theorem expectPulses_link : (expectPulses p m t n s).link = s.link := by
  rfl
@[simp] theorem expectPulses_events : (expectPulses p m t n s).events = s.events := by
  rfl
@[simp] theorem expectPulses_overflow : (expectPulses p m t n s).overflow = s.overflow := by
  rfl
@[simp] theorem expectPulses_freeCount : (expectPulses p m t n s).freeCount = s.freeCount := by
  rfl

end

/-! ### `dropExpectation` -/

section

variable (p : PortNo) (m : OutputNo) (t : Station) (s : State)

@[simp] theorem dropExpectation_pending : (dropExpectation p m t s).pending = s.pending := by
  rfl
@[simp] theorem dropExpectation_timeStamp : (dropExpectation p m t s).timeStamp = s.timeStamp := by
  rfl
@[simp] theorem dropExpectation_mode : (dropExpectation p m t s).mode = s.mode := by
  rfl
@[simp] theorem dropExpectation_straps : (dropExpectation p m t s).straps = s.straps := by
  rfl
@[simp] theorem dropExpectation_settings : (dropExpectation p m t s).settings = s.settings := by
  rfl
@[simp] theorem dropExpectation_chutes : (dropExpectation p m t s).chutes = s.chutes := by
  rfl
@[simp] theorem dropExpectation_meters : (dropExpectation p m t s).meters = s.meters := by
  rfl
@[simp] theorem dropExpectation_accounts : (dropExpectation p m t s).accounts = s.accounts := by
  rfl
@[simp] theorem dropExpectation_totalIn : (dropExpectation p m t s).totalIn = s.totalIn := by
  rfl
@[simp] theorem dropExpectation_totalOut : (dropExpectation p m t s).totalOut = s.totalOut := by
  rfl
@[simp] theorem dropExpectation_powerQueue : (dropExpectation p m t s).powerQueue = s.powerQueue := by
  rfl
@[simp] theorem dropExpectation_recency : (dropExpectation p m t s).recency = s.recency := by
  rfl
@[simp] theorem dropExpectation_gates : (dropExpectation p m t s).gates = s.gates := by
  rfl
@[simp] theorem dropExpectation_servicePending : (dropExpectation p m t s).servicePending = s.servicePending := by
  rfl
@[simp] theorem dropExpectation_router : (dropExpectation p m t s).router = s.router := by
  rfl
@[simp] theorem dropExpectation_resetPin : (dropExpectation p m t s).resetPin = s.resetPin := by
  rfl
@[simp] theorem dropExpectation_cutover : (dropExpectation p m t s).cutover = s.cutover := by
  rfl
@[simp] theorem dropExpectation_cabinet : (dropExpectation p m t s).cabinet = s.cabinet := by
  rfl
@[simp] theorem dropExpectation_link : (dropExpectation p m t s).link = s.link := by
  rfl
@[simp] theorem dropExpectation_events : (dropExpectation p m t s).events = s.events := by
  rfl
@[simp] theorem dropExpectation_overflow : (dropExpectation p m t s).overflow = s.overflow := by
  rfl
@[simp] theorem dropExpectation_freeCount : (dropExpectation p m t s).freeCount = s.freeCount := by
  rfl

end

/-! ### `commitFunding` -/

section

variable (t : Station) (pl : Place) (k : FundingKind) (a : Option AccountNo) (x n : Nat) (r : Claim) (s : State)

@[simp] theorem commitFunding_pending : (commitFunding t pl k a x n r s).pending = s.pending := by
  unfold commitFunding; dsimp only; rw [requestLine_pending]; split <;> simp
@[simp] theorem commitFunding_timeStamp : (commitFunding t pl k a x n r s).timeStamp = s.timeStamp := by
  unfold commitFunding; dsimp only; rw [requestLine_timeStamp]; split <;> simp
@[simp] theorem commitFunding_mode : (commitFunding t pl k a x n r s).mode = s.mode := by
  unfold commitFunding; dsimp only; rw [requestLine_mode]; split <;> simp
@[simp] theorem commitFunding_straps : (commitFunding t pl k a x n r s).straps = s.straps := by
  unfold commitFunding; dsimp only; rw [requestLine_straps]; split <;> simp
@[simp] theorem commitFunding_settings : (commitFunding t pl k a x n r s).settings = s.settings := by
  unfold commitFunding; dsimp only; rw [requestLine_settings]; split <;> simp
@[simp] theorem commitFunding_chutes : (commitFunding t pl k a x n r s).chutes = s.chutes := by
  unfold commitFunding; dsimp only; rw [requestLine_chutes]; split <;> simp
@[simp] theorem commitFunding_meters : (commitFunding t pl k a x n r s).meters = s.meters := by
  unfold commitFunding; dsimp only; rw [requestLine_meters]; split <;> simp
@[simp] theorem commitFunding_accounts : (commitFunding t pl k a x n r s).accounts = s.accounts := by
  unfold commitFunding; dsimp only; rw [requestLine_accounts]; split <;> simp
@[simp] theorem commitFunding_totalIn : (commitFunding t pl k a x n r s).totalIn = s.totalIn := by
  unfold commitFunding; dsimp only; rw [requestLine_totalIn]; split <;> simp
@[simp] theorem commitFunding_totalOut : (commitFunding t pl k a x n r s).totalOut = s.totalOut := by
  unfold commitFunding; dsimp only; rw [requestLine_totalOut]; split <;> simp
@[simp] theorem commitFunding_powerQueue : (commitFunding t pl k a x n r s).powerQueue = s.powerQueue := by
  unfold commitFunding; dsimp only; rw [requestLine_powerQueue]; split <;> simp
@[simp] theorem commitFunding_recency : (commitFunding t pl k a x n r s).recency = s.recency := by
  unfold commitFunding; dsimp only; rw [requestLine_recency]; split <;> simp
@[simp] theorem commitFunding_servicePending : (commitFunding t pl k a x n r s).servicePending = s.servicePending := by
  unfold commitFunding; dsimp only; rw [requestLine_servicePending]; split <;> simp
@[simp] theorem commitFunding_router : (commitFunding t pl k a x n r s).router = s.router := by
  unfold commitFunding; dsimp only; rw [requestLine_router]; split <;> simp
@[simp] theorem commitFunding_resetPin : (commitFunding t pl k a x n r s).resetPin = s.resetPin := by
  unfold commitFunding; dsimp only; rw [requestLine_resetPin]; split <;> simp
@[simp] theorem commitFunding_cutover : (commitFunding t pl k a x n r s).cutover = s.cutover := by
  unfold commitFunding; dsimp only; rw [requestLine_cutover]; split <;> simp
@[simp] theorem commitFunding_cabinet : (commitFunding t pl k a x n r s).cabinet = s.cabinet := by
  unfold commitFunding; dsimp only; rw [requestLine_cabinet]; split <;> simp
@[simp] theorem commitFunding_link : (commitFunding t pl k a x n r s).link = s.link := by
  unfold commitFunding; dsimp only; rw [requestLine_link]; split <;> simp
@[simp] theorem commitFunding_events : (commitFunding t pl k a x n r s).events = s.events := by
  unfold commitFunding; dsimp only; rw [requestLine_events]; split <;> simp
@[simp] theorem commitFunding_overflow : (commitFunding t pl k a x n r s).overflow = s.overflow := by
  unfold commitFunding; dsimp only; rw [requestLine_overflow]; split <;> simp
@[simp] theorem commitFunding_freeCount : (commitFunding t pl k a x n r s).freeCount = s.freeCount := by
  unfold commitFunding; dsimp only; rw [requestLine_freeCount]; split <;> simp

end

/-! ### `decideFunding` -/

section

variable (t : Station) (pl : Place) (s : State)

@[simp] theorem decideFunding_pending : (decideFunding t pl s).pending = s.pending := by
  unfold decideFunding; dsimp only; (repeat' split) <;> simp
@[simp] theorem decideFunding_timeStamp : (decideFunding t pl s).timeStamp = s.timeStamp := by
  unfold decideFunding; dsimp only; (repeat' split) <;> simp
@[simp] theorem decideFunding_mode : (decideFunding t pl s).mode = s.mode := by
  unfold decideFunding; dsimp only; (repeat' split) <;> simp
@[simp] theorem decideFunding_straps : (decideFunding t pl s).straps = s.straps := by
  unfold decideFunding; dsimp only; (repeat' split) <;> simp
@[simp] theorem decideFunding_settings : (decideFunding t pl s).settings = s.settings := by
  unfold decideFunding; dsimp only; (repeat' split) <;> simp
@[simp] theorem decideFunding_totalIn : (decideFunding t pl s).totalIn = s.totalIn := by
  unfold decideFunding; dsimp only; (repeat' split) <;> simp
@[simp] theorem decideFunding_powerQueue : (decideFunding t pl s).powerQueue = s.powerQueue := by
  unfold decideFunding; dsimp only; (repeat' split) <;> simp
@[simp] theorem decideFunding_recency : (decideFunding t pl s).recency = s.recency := by
  unfold decideFunding; dsimp only; (repeat' split) <;> simp
@[simp] theorem decideFunding_servicePending : (decideFunding t pl s).servicePending = s.servicePending := by
  unfold decideFunding; dsimp only; (repeat' split) <;> simp
@[simp] theorem decideFunding_router : (decideFunding t pl s).router = s.router := by
  unfold decideFunding; dsimp only; (repeat' split) <;> simp
@[simp] theorem decideFunding_resetPin : (decideFunding t pl s).resetPin = s.resetPin := by
  unfold decideFunding; dsimp only; (repeat' split) <;> simp
@[simp] theorem decideFunding_cutover : (decideFunding t pl s).cutover = s.cutover := by
  unfold decideFunding; dsimp only; (repeat' split) <;> simp
@[simp] theorem decideFunding_link : (decideFunding t pl s).link = s.link := by
  unfold decideFunding; dsimp only; (repeat' split) <;> simp
@[simp] theorem decideFunding_freeCount : (decideFunding t pl s).freeCount = s.freeCount := by
  unfold decideFunding; dsimp only; (repeat' split) <;> simp

end

/-! ### `startPress` -/

section

variable (t : Station) (s : State)

@[simp] theorem startPress_pending : (startPress t s).pending = s.pending := by
  unfold startPress; (repeat' split) <;> simp
@[simp] theorem startPress_timeStamp : (startPress t s).timeStamp = s.timeStamp := by
  unfold startPress; (repeat' split) <;> simp
@[simp] theorem startPress_mode : (startPress t s).mode = s.mode := by
  unfold startPress; (repeat' split) <;> simp
@[simp] theorem startPress_straps : (startPress t s).straps = s.straps := by
  unfold startPress; (repeat' split) <;> simp
@[simp] theorem startPress_settings : (startPress t s).settings = s.settings := by
  unfold startPress; (repeat' split) <;> simp
@[simp] theorem startPress_totalIn : (startPress t s).totalIn = s.totalIn := by
  unfold startPress; (repeat' split) <;> simp
@[simp] theorem startPress_powerQueue : (startPress t s).powerQueue = s.powerQueue := by
  unfold startPress; (repeat' split) <;> simp
@[simp] theorem startPress_recency : (startPress t s).recency = s.recency := by
  unfold startPress; (repeat' split) <;> simp
@[simp] theorem startPress_servicePending : (startPress t s).servicePending = s.servicePending := by
  unfold startPress; (repeat' split) <;> simp
@[simp] theorem startPress_router : (startPress t s).router = s.router := by
  unfold startPress; (repeat' split) <;> simp
@[simp] theorem startPress_resetPin : (startPress t s).resetPin = s.resetPin := by
  unfold startPress; (repeat' split) <;> simp
@[simp] theorem startPress_cutover : (startPress t s).cutover = s.cutover := by
  unfold startPress; (repeat' split) <;> simp
@[simp] theorem startPress_link : (startPress t s).link = s.link := by
  unfold startPress; (repeat' split) <;> simp
@[simp] theorem startPress_freeCount : (startPress t s).freeCount = s.freeCount := by
  unfold startPress; (repeat' split) <;> simp

end

/-! ### `serveService` -/

section

variable (s : State)

@[simp] theorem serveService_pending : (serveService  s).pending = s.pending := by
  unfold serveService; dsimp only; (repeat' split) <;> simp
@[simp] theorem serveService_timeStamp : (serveService  s).timeStamp = s.timeStamp := by
  unfold serveService; dsimp only; (repeat' split) <;> simp
@[simp] theorem serveService_mode : (serveService  s).mode = s.mode := by
  unfold serveService; dsimp only; (repeat' split) <;> simp
@[simp] theorem serveService_straps : (serveService  s).straps = s.straps := by
  unfold serveService; dsimp only; (repeat' split) <;> simp
@[simp] theorem serveService_settings : (serveService  s).settings = s.settings := by
  unfold serveService; dsimp only; (repeat' split) <;> simp
@[simp] theorem serveService_chutes : (serveService  s).chutes = s.chutes := by
  unfold serveService; dsimp only; (repeat' split) <;> simp
@[simp] theorem serveService_meters : (serveService  s).meters = s.meters := by
  unfold serveService; dsimp only; (repeat' split) <;> simp
@[simp] theorem serveService_accounts : (serveService  s).accounts = s.accounts := by
  unfold serveService; dsimp only; (repeat' split) <;> simp
@[simp] theorem serveService_totalIn : (serveService  s).totalIn = s.totalIn := by
  unfold serveService; dsimp only; (repeat' split) <;> simp
@[simp] theorem serveService_totalOut : (serveService  s).totalOut = s.totalOut := by
  unfold serveService; dsimp only; (repeat' split) <;> simp
@[simp] theorem serveService_powerQueue : (serveService  s).powerQueue = s.powerQueue := by
  unfold serveService; dsimp only; (repeat' split) <;> simp
@[simp] theorem serveService_recency : (serveService  s).recency = s.recency := by
  unfold serveService; dsimp only; (repeat' split) <;> simp
@[simp] theorem serveService_servicePending : (serveService  s).servicePending = s.servicePending := by
  unfold serveService; dsimp only; (repeat' split) <;> simp
@[simp] theorem serveService_router : (serveService  s).router = s.router := by
  unfold serveService; dsimp only; (repeat' split) <;> simp
@[simp] theorem serveService_resetPin : (serveService  s).resetPin = s.resetPin := by
  unfold serveService; dsimp only; (repeat' split) <;> simp
@[simp] theorem serveService_cutover : (serveService  s).cutover = s.cutover := by
  unfold serveService; dsimp only; (repeat' split) <;> simp
@[simp] theorem serveService_cabinet : (serveService  s).cabinet = s.cabinet := by
  unfold serveService; dsimp only; (repeat' split) <;> simp
@[simp] theorem serveService_link : (serveService  s).link = s.link := by
  unfold serveService; dsimp only; (repeat' split) <;> simp
@[simp] theorem serveService_freeCount : (serveService  s).freeCount = s.freeCount := by
  unfold serveService; dsimp only; (repeat' split) <;> simp

end

/-! ### `servicePress` -/

section

variable (s : State)

@[simp] theorem servicePress_pending : (servicePress  s).pending = s.pending := by
  unfold servicePress; (repeat' split) <;> simp
@[simp] theorem servicePress_timeStamp : (servicePress  s).timeStamp = s.timeStamp := by
  unfold servicePress; (repeat' split) <;> simp
@[simp] theorem servicePress_mode : (servicePress  s).mode = s.mode := by
  unfold servicePress; (repeat' split) <;> simp
@[simp] theorem servicePress_straps : (servicePress  s).straps = s.straps := by
  unfold servicePress; (repeat' split) <;> simp
@[simp] theorem servicePress_settings : (servicePress  s).settings = s.settings := by
  unfold servicePress; (repeat' split) <;> simp
@[simp] theorem servicePress_chutes : (servicePress  s).chutes = s.chutes := by
  unfold servicePress; (repeat' split) <;> simp
@[simp] theorem servicePress_meters : (servicePress  s).meters = s.meters := by
  unfold servicePress; (repeat' split) <;> simp
@[simp] theorem servicePress_accounts : (servicePress  s).accounts = s.accounts := by
  unfold servicePress; (repeat' split) <;> simp
@[simp] theorem servicePress_totalIn : (servicePress  s).totalIn = s.totalIn := by
  unfold servicePress; (repeat' split) <;> simp
@[simp] theorem servicePress_totalOut : (servicePress  s).totalOut = s.totalOut := by
  unfold servicePress; (repeat' split) <;> simp
@[simp] theorem servicePress_powerQueue : (servicePress  s).powerQueue = s.powerQueue := by
  unfold servicePress; (repeat' split) <;> simp
@[simp] theorem servicePress_recency : (servicePress  s).recency = s.recency := by
  unfold servicePress; (repeat' split) <;> simp
@[simp] theorem servicePress_router : (servicePress  s).router = s.router := by
  unfold servicePress; (repeat' split) <;> simp
@[simp] theorem servicePress_resetPin : (servicePress  s).resetPin = s.resetPin := by
  unfold servicePress; (repeat' split) <;> simp
@[simp] theorem servicePress_cutover : (servicePress  s).cutover = s.cutover := by
  unfold servicePress; (repeat' split) <;> simp
@[simp] theorem servicePress_cabinet : (servicePress  s).cabinet = s.cabinet := by
  unfold servicePress; (repeat' split) <;> simp
@[simp] theorem servicePress_link : (servicePress  s).link = s.link := by
  unfold servicePress; (repeat' split) <;> simp
@[simp] theorem servicePress_freeCount : (servicePress  s).freeCount = s.freeCount := by
  unfold servicePress; (repeat' split) <;> simp

end

/-! ### `servePending` -/

section

variable (t : Station) (s : State)

@[simp] theorem servePending_pending : (servePending t s).pending = s.pending := by
  unfold servePending; (repeat' split) <;> simp
@[simp] theorem servePending_timeStamp : (servePending t s).timeStamp = s.timeStamp := by
  unfold servePending; (repeat' split) <;> simp
@[simp] theorem servePending_mode : (servePending t s).mode = s.mode := by
  unfold servePending; (repeat' split) <;> simp
@[simp] theorem servePending_straps : (servePending t s).straps = s.straps := by
  unfold servePending; (repeat' split) <;> simp
@[simp] theorem servePending_settings : (servePending t s).settings = s.settings := by
  unfold servePending; (repeat' split) <;> simp
@[simp] theorem servePending_chutes : (servePending t s).chutes = s.chutes := by
  unfold servePending; (repeat' split) <;> simp
@[simp] theorem servePending_meters : (servePending t s).meters = s.meters := by
  unfold servePending; (repeat' split) <;> simp
@[simp] theorem servePending_accounts : (servePending t s).accounts = s.accounts := by
  unfold servePending; (repeat' split) <;> simp
@[simp] theorem servePending_totalIn : (servePending t s).totalIn = s.totalIn := by
  unfold servePending; (repeat' split) <;> simp
@[simp] theorem servePending_totalOut : (servePending t s).totalOut = s.totalOut := by
  unfold servePending; (repeat' split) <;> simp
@[simp] theorem servePending_powerQueue : (servePending t s).powerQueue = s.powerQueue := by
  unfold servePending; (repeat' split) <;> simp
@[simp] theorem servePending_recency : (servePending t s).recency = s.recency := by
  unfold servePending; (repeat' split) <;> simp
@[simp] theorem servePending_router : (servePending t s).router = s.router := by
  unfold servePending; (repeat' split) <;> simp
@[simp] theorem servePending_resetPin : (servePending t s).resetPin = s.resetPin := by
  unfold servePending; (repeat' split) <;> simp
@[simp] theorem servePending_cutover : (servePending t s).cutover = s.cutover := by
  unfold servePending; (repeat' split) <;> simp
@[simp] theorem servePending_cabinet : (servePending t s).cabinet = s.cabinet := by
  unfold servePending; (repeat' split) <;> simp
@[simp] theorem servePending_link : (servePending t s).link = s.link := by
  unfold servePending; (repeat' split) <;> simp
@[simp] theorem servePending_freeCount : (servePending t s).freeCount = s.freeCount := by
  unfold servePending; (repeat' split) <;> simp

end

/-! ### `abandonLine` -/

section

variable (t : Station) (s : State)

@[simp] theorem abandonLine_pending : (abandonLine t s).pending = s.pending := by
  unfold abandonLine; (repeat' split) <;> simp
@[simp] theorem abandonLine_timeStamp : (abandonLine t s).timeStamp = s.timeStamp := by
  unfold abandonLine; (repeat' split) <;> simp
@[simp] theorem abandonLine_mode : (abandonLine t s).mode = s.mode := by
  unfold abandonLine; (repeat' split) <;> simp
@[simp] theorem abandonLine_straps : (abandonLine t s).straps = s.straps := by
  unfold abandonLine; (repeat' split) <;> simp
@[simp] theorem abandonLine_settings : (abandonLine t s).settings = s.settings := by
  unfold abandonLine; (repeat' split) <;> simp
@[simp] theorem abandonLine_chutes : (abandonLine t s).chutes = s.chutes := by
  unfold abandonLine; (repeat' split) <;> simp
@[simp] theorem abandonLine_meters : (abandonLine t s).meters = s.meters := by
  unfold abandonLine; (repeat' split) <;> simp
@[simp] theorem abandonLine_accounts : (abandonLine t s).accounts = s.accounts := by
  unfold abandonLine; (repeat' split) <;> simp
@[simp] theorem abandonLine_totalIn : (abandonLine t s).totalIn = s.totalIn := by
  unfold abandonLine; (repeat' split) <;> simp
@[simp] theorem abandonLine_totalOut : (abandonLine t s).totalOut = s.totalOut := by
  unfold abandonLine; (repeat' split) <;> simp
@[simp] theorem abandonLine_powerQueue : (abandonLine t s).powerQueue = s.powerQueue := by
  unfold abandonLine; (repeat' split) <;> simp
@[simp] theorem abandonLine_recency : (abandonLine t s).recency = s.recency := by
  unfold abandonLine; (repeat' split) <;> simp
@[simp] theorem abandonLine_servicePending : (abandonLine t s).servicePending = s.servicePending := by
  unfold abandonLine; (repeat' split) <;> simp
@[simp] theorem abandonLine_router : (abandonLine t s).router = s.router := by
  unfold abandonLine; (repeat' split) <;> simp
@[simp] theorem abandonLine_resetPin : (abandonLine t s).resetPin = s.resetPin := by
  unfold abandonLine; (repeat' split) <;> simp
@[simp] theorem abandonLine_cutover : (abandonLine t s).cutover = s.cutover := by
  unfold abandonLine; (repeat' split) <;> simp
@[simp] theorem abandonLine_cabinet : (abandonLine t s).cabinet = s.cabinet := by
  unfold abandonLine; (repeat' split) <;> simp
@[simp] theorem abandonLine_link : (abandonLine t s).link = s.link := by
  unfold abandonLine; (repeat' split) <;> simp
@[simp] theorem abandonLine_events : (abandonLine t s).events = s.events := by
  unfold abandonLine; (repeat' split) <;> simp
@[simp] theorem abandonLine_overflow : (abandonLine t s).overflow = s.overflow := by
  unfold abandonLine; (repeat' split) <;> simp
@[simp] theorem abandonLine_freeCount : (abandonLine t s).freeCount = s.freeCount := by
  unfold abandonLine; (repeat' split) <;> simp

end

/-! ### `abortGate` -/

section

variable (r : AbortReason) (t : Station) (s : State)

@[simp] theorem abortGate_pending : (abortGate r t s).pending = s.pending := by
  unfold abortGate; dsimp only; split
  · rfl
  · rw [post_pending, clearGate_pending, modCounter_pending]; split <;> simp
@[simp] theorem abortGate_timeStamp : (abortGate r t s).timeStamp = s.timeStamp := by
  unfold abortGate; dsimp only; split
  · rfl
  · rw [post_timeStamp, clearGate_timeStamp, modCounter_timeStamp]; split <;> simp
@[simp] theorem abortGate_mode : (abortGate r t s).mode = s.mode := by
  unfold abortGate; dsimp only; split
  · rfl
  · rw [post_mode, clearGate_mode, modCounter_mode]; split <;> simp
@[simp] theorem abortGate_straps : (abortGate r t s).straps = s.straps := by
  unfold abortGate; dsimp only; split
  · rfl
  · rw [post_straps, clearGate_straps, modCounter_straps]; split <;> simp
@[simp] theorem abortGate_settings : (abortGate r t s).settings = s.settings := by
  unfold abortGate; dsimp only; split
  · rfl
  · rw [post_settings, clearGate_settings, modCounter_settings]; split <;> simp
@[simp] theorem abortGate_meters : (abortGate r t s).meters = s.meters := by
  unfold abortGate; dsimp only; split
  · rfl
  · rw [post_meters, clearGate_meters, modCounter_meters]; split <;> simp
@[simp] theorem abortGate_totalIn : (abortGate r t s).totalIn = s.totalIn := by
  unfold abortGate; dsimp only; split
  · rfl
  · rw [post_totalIn, clearGate_totalIn, modCounter_totalIn]; split <;> simp
@[simp] theorem abortGate_powerQueue : (abortGate r t s).powerQueue = s.powerQueue := by
  unfold abortGate; dsimp only; split
  · rfl
  · rw [post_powerQueue, clearGate_powerQueue, modCounter_powerQueue]; split <;> simp
@[simp] theorem abortGate_recency : (abortGate r t s).recency = s.recency := by
  unfold abortGate; dsimp only; split
  · rfl
  · rw [post_recency, clearGate_recency, modCounter_recency]; split <;> simp
@[simp] theorem abortGate_servicePending : (abortGate r t s).servicePending = s.servicePending := by
  unfold abortGate; dsimp only; split
  · rfl
  · rw [post_servicePending, clearGate_servicePending, modCounter_servicePending]; split <;> simp
@[simp] theorem abortGate_router : (abortGate r t s).router = s.router := by
  unfold abortGate; dsimp only; split
  · rfl
  · rw [post_router, clearGate_router, modCounter_router]; split <;> simp
@[simp] theorem abortGate_resetPin : (abortGate r t s).resetPin = s.resetPin := by
  unfold abortGate; dsimp only; split
  · rfl
  · rw [post_resetPin, clearGate_resetPin, modCounter_resetPin]; split <;> simp
@[simp] theorem abortGate_cutover : (abortGate r t s).cutover = s.cutover := by
  unfold abortGate; dsimp only; split
  · rfl
  · rw [post_cutover, clearGate_cutover, modCounter_cutover]; split <;> simp
@[simp] theorem abortGate_link : (abortGate r t s).link = s.link := by
  unfold abortGate; dsimp only; split
  · rfl
  · rw [post_link, clearGate_link, modCounter_link]; split <;> simp
@[simp] theorem abortGate_freeCount : (abortGate r t s).freeCount = s.freeCount := by
  unfold abortGate; dsimp only; split
  · rfl
  · rw [post_freeCount, clearGate_freeCount, modCounter_freeCount]; split <;> simp

end

/-! ### `abortGates` -/

section

variable (r : AbortReason) (s : State)

@[simp] theorem abortGates_pending : (abortGates r s).pending = s.pending := by
  unfold abortGates; simp
@[simp] theorem abortGates_timeStamp : (abortGates r s).timeStamp = s.timeStamp := by
  unfold abortGates; simp
@[simp] theorem abortGates_mode : (abortGates r s).mode = s.mode := by
  unfold abortGates; simp
@[simp] theorem abortGates_straps : (abortGates r s).straps = s.straps := by
  unfold abortGates; simp
@[simp] theorem abortGates_settings : (abortGates r s).settings = s.settings := by
  unfold abortGates; simp
@[simp] theorem abortGates_meters : (abortGates r s).meters = s.meters := by
  unfold abortGates; simp
@[simp] theorem abortGates_totalIn : (abortGates r s).totalIn = s.totalIn := by
  unfold abortGates; simp
@[simp] theorem abortGates_powerQueue : (abortGates r s).powerQueue = s.powerQueue := by
  unfold abortGates; simp
@[simp] theorem abortGates_recency : (abortGates r s).recency = s.recency := by
  unfold abortGates; simp
@[simp] theorem abortGates_router : (abortGates r s).router = s.router := by
  unfold abortGates; simp
@[simp] theorem abortGates_resetPin : (abortGates r s).resetPin = s.resetPin := by
  unfold abortGates; simp
@[simp] theorem abortGates_cutover : (abortGates r s).cutover = s.cutover := by
  unfold abortGates; simp
@[simp] theorem abortGates_link : (abortGates r s).link = s.link := by
  unfold abortGates; simp
@[simp] theorem abortGates_freeCount : (abortGates r s).freeCount = s.freeCount := by
  unfold abortGates; simp

end

end Sys2Proof.Machine
end

