-- ==== Sys2Proof/Laws/Boards.lean ====
section
/-! SUPPORT. What the shared operations of board life and the power sequencer leave of the state, field by field. -/

namespace Sys2Proof.Machine

/-! ### `postFailed` -/

section

variable (x : Crosspoint) (r : FailReason) (s : State)

@[simp] theorem postFailed_pending : (postFailed x r s).pending = s.pending := by
  rfl
@[simp] theorem postFailed_timeStamp : (postFailed x r s).timeStamp = s.timeStamp := by
  rfl
@[simp] theorem postFailed_mode : (postFailed x r s).mode = s.mode := by
  rfl
@[simp] theorem postFailed_straps : (postFailed x r s).straps = s.straps := by
  rfl
@[simp] theorem postFailed_settings : (postFailed x r s).settings = s.settings := by
  rfl
@[simp] theorem postFailed_chutes : (postFailed x r s).chutes = s.chutes := by
  rfl
@[simp] theorem postFailed_meters : (postFailed x r s).meters = s.meters := by
  rfl
@[simp] theorem postFailed_accounts : (postFailed x r s).accounts = s.accounts := by
  rfl
@[simp] theorem postFailed_totalIn : (postFailed x r s).totalIn = s.totalIn := by
  rfl
@[simp] theorem postFailed_totalOut : (postFailed x r s).totalOut = s.totalOut := by
  rfl
@[simp] theorem postFailed_ports : (postFailed x r s).ports = s.ports := by
  rfl
@[simp] theorem postFailed_powerQueue : (postFailed x r s).powerQueue = s.powerQueue := by
  rfl
@[simp] theorem postFailed_recency : (postFailed x r s).recency = s.recency := by
  rfl
@[simp] theorem postFailed_gates : (postFailed x r s).gates = s.gates := by
  rfl
@[simp] theorem postFailed_servicePending : (postFailed x r s).servicePending = s.servicePending := by
  rfl
@[simp] theorem postFailed_router : (postFailed x r s).router = s.router := by
  rfl
@[simp] theorem postFailed_resetPin : (postFailed x r s).resetPin = s.resetPin := by
  rfl
@[simp] theorem postFailed_cutover : (postFailed x r s).cutover = s.cutover := by
  rfl
@[simp] theorem postFailed_cabinet : (postFailed x r s).cabinet = s.cabinet := by
  rfl
@[simp] theorem postFailed_link : (postFailed x r s).link = s.link := by
  rfl
@[simp] theorem postFailed_freeCount : (postFailed x r s).freeCount = s.freeCount := by
  rfl

end

/-! ### `failPending` -/

section

variable (p : PortNo) (r : FailReason) (s : State)

@[simp] theorem failPending_pending : (failPending p r s).pending = s.pending := by
  unfold failPending; (repeat' split) <;> simp
@[simp] theorem failPending_timeStamp : (failPending p r s).timeStamp = s.timeStamp := by
  unfold failPending; (repeat' split) <;> simp
@[simp] theorem failPending_mode : (failPending p r s).mode = s.mode := by
  unfold failPending; (repeat' split) <;> simp
@[simp] theorem failPending_straps : (failPending p r s).straps = s.straps := by
  unfold failPending; (repeat' split) <;> simp
@[simp] theorem failPending_settings : (failPending p r s).settings = s.settings := by
  unfold failPending; (repeat' split) <;> simp
@[simp] theorem failPending_chutes : (failPending p r s).chutes = s.chutes := by
  unfold failPending; (repeat' split) <;> simp
@[simp] theorem failPending_meters : (failPending p r s).meters = s.meters := by
  unfold failPending; (repeat' split) <;> simp
@[simp] theorem failPending_accounts : (failPending p r s).accounts = s.accounts := by
  unfold failPending; (repeat' split) <;> simp
@[simp] theorem failPending_totalIn : (failPending p r s).totalIn = s.totalIn := by
  unfold failPending; (repeat' split) <;> simp
@[simp] theorem failPending_totalOut : (failPending p r s).totalOut = s.totalOut := by
  unfold failPending; (repeat' split) <;> simp
@[simp] theorem failPending_ports : (failPending p r s).ports = s.ports := by
  unfold failPending; (repeat' split) <;> simp
@[simp] theorem failPending_powerQueue : (failPending p r s).powerQueue = s.powerQueue := by
  unfold failPending; (repeat' split) <;> simp
@[simp] theorem failPending_recency : (failPending p r s).recency = s.recency := by
  unfold failPending; (repeat' split) <;> simp
@[simp] theorem failPending_gates : (failPending p r s).gates = s.gates := by
  unfold failPending; (repeat' split) <;> simp
@[simp] theorem failPending_servicePending : (failPending p r s).servicePending = s.servicePending := by
  unfold failPending; (repeat' split) <;> simp
@[simp] theorem failPending_router : (failPending p r s).router = s.router := by
  unfold failPending; (repeat' split) <;> simp
@[simp] theorem failPending_resetPin : (failPending p r s).resetPin = s.resetPin := by
  unfold failPending; (repeat' split) <;> simp
@[simp] theorem failPending_cabinet : (failPending p r s).cabinet = s.cabinet := by
  unfold failPending; (repeat' split) <;> simp
@[simp] theorem failPending_link : (failPending p r s).link = s.link := by
  unfold failPending; (repeat' split) <;> simp
@[simp] theorem failPending_freeCount : (failPending p r s).freeCount = s.freeCount := by
  unfold failPending; (repeat' split) <;> simp

end

/-! ### `unroute` -/

section

variable (s : State)

@[simp] theorem unroute_pending : (unroute  s).pending = s.pending := by
  rfl
@[simp] theorem unroute_timeStamp : (unroute  s).timeStamp = s.timeStamp := by
  rfl
@[simp] theorem unroute_mode : (unroute  s).mode = s.mode := by
  rfl
@[simp] theorem unroute_straps : (unroute  s).straps = s.straps := by
  rfl
@[simp] theorem unroute_settings : (unroute  s).settings = s.settings := by
  rfl
@[simp] theorem unroute_chutes : (unroute  s).chutes = s.chutes := by
  rfl
@[simp] theorem unroute_meters : (unroute  s).meters = s.meters := by
  rfl
@[simp] theorem unroute_accounts : (unroute  s).accounts = s.accounts := by
  rfl
@[simp] theorem unroute_totalIn : (unroute  s).totalIn = s.totalIn := by
  rfl
@[simp] theorem unroute_totalOut : (unroute  s).totalOut = s.totalOut := by
  rfl
@[simp] theorem unroute_ports : (unroute  s).ports = s.ports := by
  rfl
@[simp] theorem unroute_powerQueue : (unroute  s).powerQueue = s.powerQueue := by
  rfl
@[simp] theorem unroute_recency : (unroute  s).recency = s.recency := by
  rfl
@[simp] theorem unroute_gates : (unroute  s).gates = s.gates := by
  rfl
@[simp] theorem unroute_servicePending : (unroute  s).servicePending = s.servicePending := by
  rfl
@[simp] theorem unroute_resetPin : (unroute  s).resetPin = s.resetPin := by
  rfl
@[simp] theorem unroute_cutover : (unroute  s).cutover = s.cutover := by
  rfl
@[simp] theorem unroute_cabinet : (unroute  s).cabinet = s.cabinet := by
  rfl
@[simp] theorem unroute_link : (unroute  s).link = s.link := by
  rfl
@[simp] theorem unroute_events : (unroute  s).events = s.events := by
  rfl
@[simp] theorem unroute_overflow : (unroute  s).overflow = s.overflow := by
  rfl
@[simp] theorem unroute_freeCount : (unroute  s).freeCount = s.freeCount := by
  rfl

end

/-! ### `refundLot` -/

section

variable (p : PortNo) (l : Lot) (s : State)

@[simp] theorem refundLot_pending : (refundLot p l s).pending = s.pending := by
  unfold refundLot; (repeat' split) <;> simp
@[simp] theorem refundLot_timeStamp : (refundLot p l s).timeStamp = s.timeStamp := by
  unfold refundLot; (repeat' split) <;> simp
@[simp] theorem refundLot_mode : (refundLot p l s).mode = s.mode := by
  unfold refundLot; (repeat' split) <;> simp
@[simp] theorem refundLot_straps : (refundLot p l s).straps = s.straps := by
  unfold refundLot; (repeat' split) <;> simp
@[simp] theorem refundLot_settings : (refundLot p l s).settings = s.settings := by
  unfold refundLot; (repeat' split) <;> simp
@[simp] theorem refundLot_meters : (refundLot p l s).meters = s.meters := by
  unfold refundLot; (repeat' split) <;> simp
@[simp] theorem refundLot_totalIn : (refundLot p l s).totalIn = s.totalIn := by
  unfold refundLot; (repeat' split) <;> simp
@[simp] theorem refundLot_powerQueue : (refundLot p l s).powerQueue = s.powerQueue := by
  unfold refundLot; (repeat' split) <;> simp
@[simp] theorem refundLot_recency : (refundLot p l s).recency = s.recency := by
  unfold refundLot; (repeat' split) <;> simp
@[simp] theorem refundLot_gates : (refundLot p l s).gates = s.gates := by
  unfold refundLot; (repeat' split) <;> simp
@[simp] theorem refundLot_servicePending : (refundLot p l s).servicePending = s.servicePending := by
  unfold refundLot; (repeat' split) <;> simp
@[simp] theorem refundLot_router : (refundLot p l s).router = s.router := by
  unfold refundLot; (repeat' split) <;> simp
@[simp] theorem refundLot_resetPin : (refundLot p l s).resetPin = s.resetPin := by
  unfold refundLot; (repeat' split) <;> simp
@[simp] theorem refundLot_cutover : (refundLot p l s).cutover = s.cutover := by
  unfold refundLot; (repeat' split) <;> simp
@[simp] theorem refundLot_link : (refundLot p l s).link = s.link := by
  unfold refundLot; (repeat' split) <;> simp
@[simp] theorem refundLot_events : (refundLot p l s).events = s.events := by
  unfold refundLot; (repeat' split) <;> simp
@[simp] theorem refundLot_overflow : (refundLot p l s).overflow = s.overflow := by
  unfold refundLot; (repeat' split) <;> simp
@[simp] theorem refundLot_freeCount : (refundLot p l s).freeCount = s.freeCount := by
  unfold refundLot; (repeat' split) <;> simp

end

/-- Refunding one lot after another leaves what refunding each leaves. -/
theorem foldl_refundLot_keeps {α : Type} (g : State → α) (p : PortNo) (h : ∀ l s, g (refundLot p l s) = g s) (ls : List Lot)
    (s : State) : g (ls.foldl (fun s l => refundLot p l s) s) = g s := by
  induction ls generalizing s with
  | nil => rfl
  | cons l ls ih => rw [List.foldl_cons, ih, h]

/-! ### `refundLots` -/

section

variable (p : PortNo) (s : State)

@[simp] theorem refundLots_pending : (refundLots p s).pending = s.pending := by
  unfold refundLots
  exact foldl_refundLot_keeps State.pending p (fun l s => by simp) _ s
@[simp] theorem refundLots_timeStamp : (refundLots p s).timeStamp = s.timeStamp := by
  unfold refundLots
  exact foldl_refundLot_keeps State.timeStamp p (fun l s => by simp) _ s
@[simp] theorem refundLots_mode : (refundLots p s).mode = s.mode := by
  unfold refundLots
  exact foldl_refundLot_keeps State.mode p (fun l s => by simp) _ s
@[simp] theorem refundLots_straps : (refundLots p s).straps = s.straps := by
  unfold refundLots
  exact foldl_refundLot_keeps State.straps p (fun l s => by simp) _ s
@[simp] theorem refundLots_settings : (refundLots p s).settings = s.settings := by
  unfold refundLots
  exact foldl_refundLot_keeps State.settings p (fun l s => by simp) _ s
@[simp] theorem refundLots_meters : (refundLots p s).meters = s.meters := by
  unfold refundLots
  exact foldl_refundLot_keeps State.meters p (fun l s => by simp) _ s
@[simp] theorem refundLots_totalIn : (refundLots p s).totalIn = s.totalIn := by
  unfold refundLots
  exact foldl_refundLot_keeps State.totalIn p (fun l s => by simp) _ s
@[simp] theorem refundLots_powerQueue : (refundLots p s).powerQueue = s.powerQueue := by
  unfold refundLots
  exact foldl_refundLot_keeps State.powerQueue p (fun l s => by simp) _ s
@[simp] theorem refundLots_recency : (refundLots p s).recency = s.recency := by
  unfold refundLots
  exact foldl_refundLot_keeps State.recency p (fun l s => by simp) _ s
@[simp] theorem refundLots_gates : (refundLots p s).gates = s.gates := by
  unfold refundLots
  exact foldl_refundLot_keeps State.gates p (fun l s => by simp) _ s
@[simp] theorem refundLots_servicePending : (refundLots p s).servicePending = s.servicePending := by
  unfold refundLots
  exact foldl_refundLot_keeps State.servicePending p (fun l s => by simp) _ s
@[simp] theorem refundLots_router : (refundLots p s).router = s.router := by
  unfold refundLots
  exact foldl_refundLot_keeps State.router p (fun l s => by simp) _ s
@[simp] theorem refundLots_resetPin : (refundLots p s).resetPin = s.resetPin := by
  unfold refundLots
  exact foldl_refundLot_keeps State.resetPin p (fun l s => by simp) _ s
@[simp] theorem refundLots_cutover : (refundLots p s).cutover = s.cutover := by
  unfold refundLots
  exact foldl_refundLot_keeps State.cutover p (fun l s => by simp) _ s
@[simp] theorem refundLots_link : (refundLots p s).link = s.link := by
  unfold refundLots
  exact foldl_refundLot_keeps State.link p (fun l s => by simp) _ s
@[simp] theorem refundLots_events : (refundLots p s).events = s.events := by
  unfold refundLots
  exact foldl_refundLot_keeps State.events p (fun l s => by simp) _ s
@[simp] theorem refundLots_overflow : (refundLots p s).overflow = s.overflow := by
  unfold refundLots
  exact foldl_refundLot_keeps State.overflow p (fun l s => by simp) _ s
@[simp] theorem refundLots_freeCount : (refundLots p s).freeCount = s.freeCount := by
  unfold refundLots
  exact foldl_refundLot_keeps State.freeCount p (fun l s => by simp) _ s

end

/-! ### `enterStopping` -/

section

variable (p : PortNo) (s : State)

@[simp] theorem enterStopping_pending : (enterStopping p s).pending = s.pending := by
  unfold enterStopping; dsimp only; (repeat' split) <;> simp
@[simp] theorem enterStopping_timeStamp : (enterStopping p s).timeStamp = s.timeStamp := by
  unfold enterStopping; dsimp only; (repeat' split) <;> simp
@[simp] theorem enterStopping_mode : (enterStopping p s).mode = s.mode := by
  unfold enterStopping; dsimp only; (repeat' split) <;> simp
@[simp] theorem enterStopping_straps : (enterStopping p s).straps = s.straps := by
  unfold enterStopping; dsimp only; (repeat' split) <;> simp
@[simp] theorem enterStopping_settings : (enterStopping p s).settings = s.settings := by
  unfold enterStopping; dsimp only; (repeat' split) <;> simp
@[simp] theorem enterStopping_meters : (enterStopping p s).meters = s.meters := by
  unfold enterStopping; dsimp only; (repeat' split) <;> simp
@[simp] theorem enterStopping_totalIn : (enterStopping p s).totalIn = s.totalIn := by
  unfold enterStopping; dsimp only; (repeat' split) <;> simp
@[simp] theorem enterStopping_powerQueue : (enterStopping p s).powerQueue = s.powerQueue := by
  unfold enterStopping; dsimp only; (repeat' split) <;> simp
@[simp] theorem enterStopping_resetPin : (enterStopping p s).resetPin = s.resetPin := by
  unfold enterStopping; dsimp only; (repeat' split) <;> simp
@[simp] theorem enterStopping_cutover : (enterStopping p s).cutover = s.cutover := by
  unfold enterStopping; dsimp only; (repeat' split) <;> simp
@[simp] theorem enterStopping_link : (enterStopping p s).link = s.link := by
  unfold enterStopping; dsimp only; (repeat' split) <;> simp
@[simp] theorem enterStopping_freeCount : (enterStopping p s).freeCount = s.freeCount := by
  unfold enterStopping; dsimp only; (repeat' split) <;> simp

end

/-! ### `setCheck` -/

section

variable (p : PortNo) (s : State)

@[simp] theorem setCheck_pending : (setCheck p s).pending = s.pending := by
  rfl
@[simp] theorem setCheck_timeStamp : (setCheck p s).timeStamp = s.timeStamp := by
  rfl
@[simp] theorem setCheck_mode : (setCheck p s).mode = s.mode := by
  rfl
@[simp] theorem setCheck_straps : (setCheck p s).straps = s.straps := by
  rfl
@[simp] theorem setCheck_settings : (setCheck p s).settings = s.settings := by
  rfl
@[simp] theorem setCheck_chutes : (setCheck p s).chutes = s.chutes := by
  rfl
@[simp] theorem setCheck_meters : (setCheck p s).meters = s.meters := by
  rfl
@[simp] theorem setCheck_accounts : (setCheck p s).accounts = s.accounts := by
  rfl
@[simp] theorem setCheck_totalIn : (setCheck p s).totalIn = s.totalIn := by
  rfl
@[simp] theorem setCheck_totalOut : (setCheck p s).totalOut = s.totalOut := by
  rfl
@[simp] theorem setCheck_powerQueue : (setCheck p s).powerQueue = s.powerQueue := by
  rfl
@[simp] theorem setCheck_recency : (setCheck p s).recency = s.recency := by
  rfl
@[simp] theorem setCheck_gates : (setCheck p s).gates = s.gates := by
  rfl
@[simp] theorem setCheck_servicePending : (setCheck p s).servicePending = s.servicePending := by
  rfl
@[simp] theorem setCheck_router : (setCheck p s).router = s.router := by
  rfl
@[simp] theorem setCheck_resetPin : (setCheck p s).resetPin = s.resetPin := by
  rfl
@[simp] theorem setCheck_cutover : (setCheck p s).cutover = s.cutover := by
  rfl
@[simp] theorem setCheck_cabinet : (setCheck p s).cabinet = s.cabinet := by
  rfl
@[simp] theorem setCheck_link : (setCheck p s).link = s.link := by
  rfl
@[simp] theorem setCheck_events : (setCheck p s).events = s.events := by
  rfl
@[simp] theorem setCheck_overflow : (setCheck p s).overflow = s.overflow := by
  rfl
@[simp] theorem setCheck_freeCount : (setCheck p s).freeCount = s.freeCount := by
  rfl

end

/-! ### `confirmReport` -/

section

variable (p : PortNo) (s : State)

@[simp] theorem confirmReport_pending : (confirmReport p s).pending = s.pending := by
  rfl
@[simp] theorem confirmReport_timeStamp : (confirmReport p s).timeStamp = s.timeStamp := by
  rfl
@[simp] theorem confirmReport_mode : (confirmReport p s).mode = s.mode := by
  rfl
@[simp] theorem confirmReport_straps : (confirmReport p s).straps = s.straps := by
  rfl
@[simp] theorem confirmReport_settings : (confirmReport p s).settings = s.settings := by
  rfl
@[simp] theorem confirmReport_chutes : (confirmReport p s).chutes = s.chutes := by
  rfl
@[simp] theorem confirmReport_meters : (confirmReport p s).meters = s.meters := by
  rfl
@[simp] theorem confirmReport_accounts : (confirmReport p s).accounts = s.accounts := by
  rfl
@[simp] theorem confirmReport_totalIn : (confirmReport p s).totalIn = s.totalIn := by
  rfl
@[simp] theorem confirmReport_totalOut : (confirmReport p s).totalOut = s.totalOut := by
  rfl
@[simp] theorem confirmReport_powerQueue : (confirmReport p s).powerQueue = s.powerQueue := by
  rfl
@[simp] theorem confirmReport_recency : (confirmReport p s).recency = s.recency := by
  rfl
@[simp] theorem confirmReport_gates : (confirmReport p s).gates = s.gates := by
  rfl
@[simp] theorem confirmReport_servicePending : (confirmReport p s).servicePending = s.servicePending := by
  rfl
@[simp] theorem confirmReport_router : (confirmReport p s).router = s.router := by
  rfl
@[simp] theorem confirmReport_resetPin : (confirmReport p s).resetPin = s.resetPin := by
  rfl
@[simp] theorem confirmReport_cutover : (confirmReport p s).cutover = s.cutover := by
  rfl
@[simp] theorem confirmReport_cabinet : (confirmReport p s).cabinet = s.cabinet := by
  rfl
@[simp] theorem confirmReport_link : (confirmReport p s).link = s.link := by
  rfl
@[simp] theorem confirmReport_events : (confirmReport p s).events = s.events := by
  rfl
@[simp] theorem confirmReport_overflow : (confirmReport p s).overflow = s.overflow := by
  rfl
@[simp] theorem confirmReport_freeCount : (confirmReport p s).freeCount = s.freeCount := by
  rfl

end

/-! ### `missReport` -/

section

variable (p : PortNo) (s : State)

@[simp] theorem missReport_pending : (missReport p s).pending = s.pending := by
  rfl
@[simp] theorem missReport_timeStamp : (missReport p s).timeStamp = s.timeStamp := by
  rfl
@[simp] theorem missReport_mode : (missReport p s).mode = s.mode := by
  rfl
@[simp] theorem missReport_straps : (missReport p s).straps = s.straps := by
  rfl
@[simp] theorem missReport_settings : (missReport p s).settings = s.settings := by
  rfl
@[simp] theorem missReport_chutes : (missReport p s).chutes = s.chutes := by
  rfl
@[simp] theorem missReport_meters : (missReport p s).meters = s.meters := by
  rfl
@[simp] theorem missReport_accounts : (missReport p s).accounts = s.accounts := by
  rfl
@[simp] theorem missReport_totalIn : (missReport p s).totalIn = s.totalIn := by
  rfl
@[simp] theorem missReport_totalOut : (missReport p s).totalOut = s.totalOut := by
  rfl
@[simp] theorem missReport_powerQueue : (missReport p s).powerQueue = s.powerQueue := by
  rfl
@[simp] theorem missReport_recency : (missReport p s).recency = s.recency := by
  rfl
@[simp] theorem missReport_gates : (missReport p s).gates = s.gates := by
  rfl
@[simp] theorem missReport_servicePending : (missReport p s).servicePending = s.servicePending := by
  rfl
@[simp] theorem missReport_router : (missReport p s).router = s.router := by
  rfl
@[simp] theorem missReport_resetPin : (missReport p s).resetPin = s.resetPin := by
  rfl
@[simp] theorem missReport_cutover : (missReport p s).cutover = s.cutover := by
  rfl
@[simp] theorem missReport_cabinet : (missReport p s).cabinet = s.cabinet := by
  rfl
@[simp] theorem missReport_link : (missReport p s).link = s.link := by
  rfl
@[simp] theorem missReport_events : (missReport p s).events = s.events := by
  rfl
@[simp] theorem missReport_overflow : (missReport p s).overflow = s.overflow := by
  rfl
@[simp] theorem missReport_freeCount : (missReport p s).freeCount = s.freeCount := by
  rfl

end

/-! ### `enterPowering` -/

section

variable (p : PortNo) (s : State)

@[simp] theorem enterPowering_pending : (enterPowering p s).pending = s.pending := by
  rfl
@[simp] theorem enterPowering_timeStamp : (enterPowering p s).timeStamp = s.timeStamp := by
  rfl
@[simp] theorem enterPowering_mode : (enterPowering p s).mode = s.mode := by
  rfl
@[simp] theorem enterPowering_straps : (enterPowering p s).straps = s.straps := by
  rfl
@[simp] theorem enterPowering_settings : (enterPowering p s).settings = s.settings := by
  rfl
@[simp] theorem enterPowering_chutes : (enterPowering p s).chutes = s.chutes := by
  rfl
@[simp] theorem enterPowering_meters : (enterPowering p s).meters = s.meters := by
  rfl
@[simp] theorem enterPowering_accounts : (enterPowering p s).accounts = s.accounts := by
  rfl
@[simp] theorem enterPowering_totalIn : (enterPowering p s).totalIn = s.totalIn := by
  rfl
@[simp] theorem enterPowering_totalOut : (enterPowering p s).totalOut = s.totalOut := by
  rfl
@[simp] theorem enterPowering_powerQueue : (enterPowering p s).powerQueue = s.powerQueue := by
  rfl
@[simp] theorem enterPowering_recency : (enterPowering p s).recency = s.recency := by
  rfl
@[simp] theorem enterPowering_gates : (enterPowering p s).gates = s.gates := by
  rfl
@[simp] theorem enterPowering_servicePending : (enterPowering p s).servicePending = s.servicePending := by
  rfl
@[simp] theorem enterPowering_router : (enterPowering p s).router = s.router := by
  rfl
@[simp] theorem enterPowering_resetPin : (enterPowering p s).resetPin = s.resetPin := by
  rfl
@[simp] theorem enterPowering_cutover : (enterPowering p s).cutover = s.cutover := by
  rfl
@[simp] theorem enterPowering_cabinet : (enterPowering p s).cabinet = s.cabinet := by
  rfl
@[simp] theorem enterPowering_link : (enterPowering p s).link = s.link := by
  rfl
@[simp] theorem enterPowering_events : (enterPowering p s).events = s.events := by
  rfl
@[simp] theorem enterPowering_overflow : (enterPowering p s).overflow = s.overflow := by
  rfl
@[simp] theorem enterPowering_freeCount : (enterPowering p s).freeCount = s.freeCount := by
  rfl

end

/-! ### `refusePower` -/

section

variable (p : PortNo) (s : State)

@[simp] theorem refusePower_pending : (refusePower p s).pending = s.pending := by
  unfold refusePower; simp
@[simp] theorem refusePower_timeStamp : (refusePower p s).timeStamp = s.timeStamp := by
  unfold refusePower; simp
@[simp] theorem refusePower_mode : (refusePower p s).mode = s.mode := by
  unfold refusePower; simp
@[simp] theorem refusePower_straps : (refusePower p s).straps = s.straps := by
  unfold refusePower; simp
@[simp] theorem refusePower_settings : (refusePower p s).settings = s.settings := by
  unfold refusePower; simp
@[simp] theorem refusePower_chutes : (refusePower p s).chutes = s.chutes := by
  unfold refusePower; simp
@[simp] theorem refusePower_meters : (refusePower p s).meters = s.meters := by
  unfold refusePower; simp
@[simp] theorem refusePower_accounts : (refusePower p s).accounts = s.accounts := by
  unfold refusePower; simp
@[simp] theorem refusePower_totalIn : (refusePower p s).totalIn = s.totalIn := by
  unfold refusePower; simp
@[simp] theorem refusePower_totalOut : (refusePower p s).totalOut = s.totalOut := by
  unfold refusePower; simp
@[simp] theorem refusePower_powerQueue : (refusePower p s).powerQueue = s.powerQueue := by
  unfold refusePower; simp
@[simp] theorem refusePower_recency : (refusePower p s).recency = s.recency := by
  unfold refusePower; simp
@[simp] theorem refusePower_gates : (refusePower p s).gates = s.gates := by
  unfold refusePower; simp
@[simp] theorem refusePower_servicePending : (refusePower p s).servicePending = s.servicePending := by
  unfold refusePower; simp
@[simp] theorem refusePower_router : (refusePower p s).router = s.router := by
  unfold refusePower; simp
@[simp] theorem refusePower_resetPin : (refusePower p s).resetPin = s.resetPin := by
  unfold refusePower; simp
@[simp] theorem refusePower_cabinet : (refusePower p s).cabinet = s.cabinet := by
  unfold refusePower; simp
@[simp] theorem refusePower_link : (refusePower p s).link = s.link := by
  unfold refusePower; simp
@[simp] theorem refusePower_freeCount : (refusePower p s).freeCount = s.freeCount := by
  unfold refusePower; simp

end

/-! ### `evictPort` -/

section

variable (e h : PortNo) (s : State)

@[simp] theorem evictPort_pending : (evictPort e h s).pending = s.pending := by
  unfold evictPort; simp
@[simp] theorem evictPort_timeStamp : (evictPort e h s).timeStamp = s.timeStamp := by
  unfold evictPort; simp
@[simp] theorem evictPort_mode : (evictPort e h s).mode = s.mode := by
  unfold evictPort; simp
@[simp] theorem evictPort_straps : (evictPort e h s).straps = s.straps := by
  unfold evictPort; simp
@[simp] theorem evictPort_settings : (evictPort e h s).settings = s.settings := by
  unfold evictPort; simp
@[simp] theorem evictPort_meters : (evictPort e h s).meters = s.meters := by
  unfold evictPort; simp
@[simp] theorem evictPort_totalIn : (evictPort e h s).totalIn = s.totalIn := by
  unfold evictPort; simp
@[simp] theorem evictPort_powerQueue : (evictPort e h s).powerQueue = s.powerQueue := by
  unfold evictPort; simp
@[simp] theorem evictPort_resetPin : (evictPort e h s).resetPin = s.resetPin := by
  unfold evictPort; simp
@[simp] theorem evictPort_cutover : (evictPort e h s).cutover = s.cutover := by
  unfold evictPort; simp
@[simp] theorem evictPort_link : (evictPort e h s).link = s.link := by
  unfold evictPort; simp
@[simp] theorem evictPort_freeCount : (evictPort e h s).freeCount = s.freeCount := by
  unfold evictPort; simp

end

/-! ### `evictUntilFits` -/

section

variable (h : PortNo) (es : List PortNo) (s : State)

@[simp] theorem evictUntilFits_pending : (evictUntilFits h es s).pending = s.pending := by
  induction es generalizing s with
  | nil => unfold evictUntilFits; split <;> simp
  | cons e es ih => unfold evictUntilFits; dsimp only; split <;> simp [ih]
@[simp] theorem evictUntilFits_timeStamp : (evictUntilFits h es s).timeStamp = s.timeStamp := by
  induction es generalizing s with
  | nil => unfold evictUntilFits; split <;> simp
  | cons e es ih => unfold evictUntilFits; dsimp only; split <;> simp [ih]
@[simp] theorem evictUntilFits_mode : (evictUntilFits h es s).mode = s.mode := by
  induction es generalizing s with
  | nil => unfold evictUntilFits; split <;> simp
  | cons e es ih => unfold evictUntilFits; dsimp only; split <;> simp [ih]
@[simp] theorem evictUntilFits_straps : (evictUntilFits h es s).straps = s.straps := by
  induction es generalizing s with
  | nil => unfold evictUntilFits; split <;> simp
  | cons e es ih => unfold evictUntilFits; dsimp only; split <;> simp [ih]
@[simp] theorem evictUntilFits_settings : (evictUntilFits h es s).settings = s.settings := by
  induction es generalizing s with
  | nil => unfold evictUntilFits; split <;> simp
  | cons e es ih => unfold evictUntilFits; dsimp only; split <;> simp [ih]
@[simp] theorem evictUntilFits_meters : (evictUntilFits h es s).meters = s.meters := by
  induction es generalizing s with
  | nil => unfold evictUntilFits; split <;> simp
  | cons e es ih => unfold evictUntilFits; dsimp only; split <;> simp [ih]
@[simp] theorem evictUntilFits_totalIn : (evictUntilFits h es s).totalIn = s.totalIn := by
  induction es generalizing s with
  | nil => unfold evictUntilFits; split <;> simp
  | cons e es ih => unfold evictUntilFits; dsimp only; split <;> simp [ih]
@[simp] theorem evictUntilFits_powerQueue : (evictUntilFits h es s).powerQueue = s.powerQueue := by
  induction es generalizing s with
  | nil => unfold evictUntilFits; split <;> simp
  | cons e es ih => unfold evictUntilFits; dsimp only; split <;> simp [ih]
@[simp] theorem evictUntilFits_resetPin : (evictUntilFits h es s).resetPin = s.resetPin := by
  induction es generalizing s with
  | nil => unfold evictUntilFits; split <;> simp
  | cons e es ih => unfold evictUntilFits; dsimp only; split <;> simp [ih]
@[simp] theorem evictUntilFits_link : (evictUntilFits h es s).link = s.link := by
  induction es generalizing s with
  | nil => unfold evictUntilFits; split <;> simp
  | cons e es ih => unfold evictUntilFits; dsimp only; split <;> simp [ih]
@[simp] theorem evictUntilFits_freeCount : (evictUntilFits h es s).freeCount = s.freeCount := by
  induction es generalizing s with
  | nil => unfold evictUntilFits; split <;> simp
  | cons e es ih => unfold evictUntilFits; dsimp only; split <;> simp [ih]

end

/-! ### `placeHead` -/

section

variable (h : PortNo) (s : State)

@[simp] theorem placeHead_pending : (placeHead h s).pending = s.pending := by
  unfold placeHead; dsimp only; (repeat' split) <;> simp
@[simp] theorem placeHead_timeStamp : (placeHead h s).timeStamp = s.timeStamp := by
  unfold placeHead; dsimp only; (repeat' split) <;> simp
@[simp] theorem placeHead_mode : (placeHead h s).mode = s.mode := by
  unfold placeHead; dsimp only; (repeat' split) <;> simp
@[simp] theorem placeHead_straps : (placeHead h s).straps = s.straps := by
  unfold placeHead; dsimp only; (repeat' split) <;> simp
@[simp] theorem placeHead_settings : (placeHead h s).settings = s.settings := by
  unfold placeHead; dsimp only; (repeat' split) <;> simp
@[simp] theorem placeHead_meters : (placeHead h s).meters = s.meters := by
  unfold placeHead; dsimp only; (repeat' split) <;> simp
@[simp] theorem placeHead_totalIn : (placeHead h s).totalIn = s.totalIn := by
  unfold placeHead; dsimp only; (repeat' split) <;> simp
@[simp] theorem placeHead_powerQueue : (placeHead h s).powerQueue = s.powerQueue := by
  unfold placeHead; dsimp only; (repeat' split) <;> simp
@[simp] theorem placeHead_resetPin : (placeHead h s).resetPin = s.resetPin := by
  unfold placeHead; dsimp only; (repeat' split) <;> simp
@[simp] theorem placeHead_link : (placeHead h s).link = s.link := by
  unfold placeHead; dsimp only; (repeat' split) <;> simp
@[simp] theorem placeHead_freeCount : (placeHead h s).freeCount = s.freeCount := by
  unfold placeHead; dsimp only; (repeat' split) <;> simp

end

/-! ### `serveHeads` -/

section

variable (n : Nat) (s : State)

@[simp] theorem serveHeads_pending : (serveHeads n s).pending = s.pending := by
  induction n generalizing s with
  | zero => rfl
  | succ n ih =>
    unfold serveHeads
    split
    · rfl
    · split
      · simp [ih]
      · rfl
@[simp] theorem serveHeads_timeStamp : (serveHeads n s).timeStamp = s.timeStamp := by
  induction n generalizing s with
  | zero => rfl
  | succ n ih =>
    unfold serveHeads
    split
    · rfl
    · split
      · simp [ih]
      · rfl
@[simp] theorem serveHeads_mode : (serveHeads n s).mode = s.mode := by
  induction n generalizing s with
  | zero => rfl
  | succ n ih =>
    unfold serveHeads
    split
    · rfl
    · split
      · simp [ih]
      · rfl
@[simp] theorem serveHeads_straps : (serveHeads n s).straps = s.straps := by
  induction n generalizing s with
  | zero => rfl
  | succ n ih =>
    unfold serveHeads
    split
    · rfl
    · split
      · simp [ih]
      · rfl
@[simp] theorem serveHeads_settings : (serveHeads n s).settings = s.settings := by
  induction n generalizing s with
  | zero => rfl
  | succ n ih =>
    unfold serveHeads
    split
    · rfl
    · split
      · simp [ih]
      · rfl
@[simp] theorem serveHeads_meters : (serveHeads n s).meters = s.meters := by
  induction n generalizing s with
  | zero => rfl
  | succ n ih =>
    unfold serveHeads
    split
    · rfl
    · split
      · simp [ih]
      · rfl
@[simp] theorem serveHeads_totalIn : (serveHeads n s).totalIn = s.totalIn := by
  induction n generalizing s with
  | zero => rfl
  | succ n ih =>
    unfold serveHeads
    split
    · rfl
    · split
      · simp [ih]
      · rfl
@[simp] theorem serveHeads_resetPin : (serveHeads n s).resetPin = s.resetPin := by
  induction n generalizing s with
  | zero => rfl
  | succ n ih =>
    unfold serveHeads
    split
    · rfl
    · split
      · simp [ih]
      · rfl
@[simp] theorem serveHeads_link : (serveHeads n s).link = s.link := by
  induction n generalizing s with
  | zero => rfl
  | succ n ih =>
    unfold serveHeads
    split
    · rfl
    · split
      · simp [ih]
      · rfl
@[simp] theorem serveHeads_freeCount : (serveHeads n s).freeCount = s.freeCount := by
  induction n generalizing s with
  | zero => rfl
  | succ n ih =>
    unfold serveHeads
    split
    · rfl
    · split
      · simp [ih]
      · rfl

end

/-! ### `serveQueue` -/

section

variable (s : State)

@[simp] theorem serveQueue_pending : (serveQueue  s).pending = s.pending := by
  unfold serveQueue; simp
@[simp] theorem serveQueue_timeStamp : (serveQueue  s).timeStamp = s.timeStamp := by
  unfold serveQueue; simp
@[simp] theorem serveQueue_mode : (serveQueue  s).mode = s.mode := by
  unfold serveQueue; simp
@[simp] theorem serveQueue_straps : (serveQueue  s).straps = s.straps := by
  unfold serveQueue; simp
@[simp] theorem serveQueue_settings : (serveQueue  s).settings = s.settings := by
  unfold serveQueue; simp
@[simp] theorem serveQueue_meters : (serveQueue  s).meters = s.meters := by
  unfold serveQueue; simp
@[simp] theorem serveQueue_totalIn : (serveQueue  s).totalIn = s.totalIn := by
  unfold serveQueue; simp
@[simp] theorem serveQueue_resetPin : (serveQueue  s).resetPin = s.resetPin := by
  unfold serveQueue; simp
@[simp] theorem serveQueue_link : (serveQueue  s).link = s.link := by
  unfold serveQueue; simp
@[simp] theorem serveQueue_freeCount : (serveQueue  s).freeCount = s.freeCount := by
  unfold serveQueue; simp

end

/-! ### `enqueuePort` -/

section

variable (p : PortNo) (s : State)

@[simp] theorem enqueuePort_pending : (enqueuePort p s).pending = s.pending := by
  unfold enqueuePort; simp
@[simp] theorem enqueuePort_timeStamp : (enqueuePort p s).timeStamp = s.timeStamp := by
  unfold enqueuePort; simp
@[simp] theorem enqueuePort_mode : (enqueuePort p s).mode = s.mode := by
  unfold enqueuePort; simp
@[simp] theorem enqueuePort_straps : (enqueuePort p s).straps = s.straps := by
  unfold enqueuePort; simp
@[simp] theorem enqueuePort_settings : (enqueuePort p s).settings = s.settings := by
  unfold enqueuePort; simp
@[simp] theorem enqueuePort_meters : (enqueuePort p s).meters = s.meters := by
  unfold enqueuePort; simp
@[simp] theorem enqueuePort_totalIn : (enqueuePort p s).totalIn = s.totalIn := by
  unfold enqueuePort; simp
@[simp] theorem enqueuePort_resetPin : (enqueuePort p s).resetPin = s.resetPin := by
  unfold enqueuePort; simp
@[simp] theorem enqueuePort_link : (enqueuePort p s).link = s.link := by
  unfold enqueuePort; simp
@[simp] theorem enqueuePort_freeCount : (enqueuePort p s).freeCount = s.freeCount := by
  unfold enqueuePort; simp

end

/-! ### `requestPower` -/

section

variable (p : PortNo) (s : State)

@[simp] theorem requestPower_pending : (requestPower p s).pending = s.pending := by
  unfold requestPower; (repeat' split) <;> simp
@[simp] theorem requestPower_timeStamp : (requestPower p s).timeStamp = s.timeStamp := by
  unfold requestPower; (repeat' split) <;> simp
@[simp] theorem requestPower_mode : (requestPower p s).mode = s.mode := by
  unfold requestPower; (repeat' split) <;> simp
@[simp] theorem requestPower_straps : (requestPower p s).straps = s.straps := by
  unfold requestPower; (repeat' split) <;> simp
@[simp] theorem requestPower_settings : (requestPower p s).settings = s.settings := by
  unfold requestPower; (repeat' split) <;> simp
@[simp] theorem requestPower_meters : (requestPower p s).meters = s.meters := by
  unfold requestPower; (repeat' split) <;> simp
@[simp] theorem requestPower_totalIn : (requestPower p s).totalIn = s.totalIn := by
  unfold requestPower; (repeat' split) <;> simp
@[simp] theorem requestPower_resetPin : (requestPower p s).resetPin = s.resetPin := by
  unfold requestPower; (repeat' split) <;> simp
@[simp] theorem requestPower_link : (requestPower p s).link = s.link := by
  unfold requestPower; (repeat' split) <;> simp
@[simp] theorem requestPower_freeCount : (requestPower p s).freeCount = s.freeCount := by
  unfold requestPower; (repeat' split) <;> simp

end

end Sys2Proof.Machine
end

