-- ==== Sys2Proof/Laws/Cutover.lean ====
section
/-! SUPPORT. What the shared operations of the cutover controller leave of the state, field by field. -/

namespace Sys2Proof.Machine

/-! ### `startRamp` -/

section

variable (l : Nat) (s : State)

@[simp] theorem startRamp_pending : (startRamp l s).pending = s.pending := by
  unfold startRamp; dsimp only; (repeat' split) <;> simp
@[simp] theorem startRamp_timeStamp : (startRamp l s).timeStamp = s.timeStamp := by
  unfold startRamp; dsimp only; (repeat' split) <;> simp
@[simp] theorem startRamp_mode : (startRamp l s).mode = s.mode := by
  unfold startRamp; dsimp only; (repeat' split) <;> simp
@[simp] theorem startRamp_straps : (startRamp l s).straps = s.straps := by
  unfold startRamp; dsimp only; (repeat' split) <;> simp
@[simp] theorem startRamp_settings : (startRamp l s).settings = s.settings := by
  unfold startRamp; dsimp only; (repeat' split) <;> simp
@[simp] theorem startRamp_chutes : (startRamp l s).chutes = s.chutes := by
  unfold startRamp; dsimp only; (repeat' split) <;> simp
@[simp] theorem startRamp_meters : (startRamp l s).meters = s.meters := by
  unfold startRamp; dsimp only; (repeat' split) <;> simp
@[simp] theorem startRamp_accounts : (startRamp l s).accounts = s.accounts := by
  unfold startRamp; dsimp only; (repeat' split) <;> simp
@[simp] theorem startRamp_totalIn : (startRamp l s).totalIn = s.totalIn := by
  unfold startRamp; dsimp only; (repeat' split) <;> simp
@[simp] theorem startRamp_totalOut : (startRamp l s).totalOut = s.totalOut := by
  unfold startRamp; dsimp only; (repeat' split) <;> simp
@[simp] theorem startRamp_ports : (startRamp l s).ports = s.ports := by
  unfold startRamp; dsimp only; (repeat' split) <;> simp
@[simp] theorem startRamp_powerQueue : (startRamp l s).powerQueue = s.powerQueue := by
  unfold startRamp; dsimp only; (repeat' split) <;> simp
@[simp] theorem startRamp_recency : (startRamp l s).recency = s.recency := by
  unfold startRamp; dsimp only; (repeat' split) <;> simp
@[simp] theorem startRamp_gates : (startRamp l s).gates = s.gates := by
  unfold startRamp; dsimp only; (repeat' split) <;> simp
@[simp] theorem startRamp_servicePending : (startRamp l s).servicePending = s.servicePending := by
  unfold startRamp; dsimp only; (repeat' split) <;> simp
@[simp] theorem startRamp_router : (startRamp l s).router = s.router := by
  unfold startRamp; dsimp only; (repeat' split) <;> simp
@[simp] theorem startRamp_resetPin : (startRamp l s).resetPin = s.resetPin := by
  unfold startRamp; dsimp only; (repeat' split) <;> simp
@[simp] theorem startRamp_cabinet : (startRamp l s).cabinet = s.cabinet := by
  unfold startRamp; dsimp only; (repeat' split) <;> simp
@[simp] theorem startRamp_link : (startRamp l s).link = s.link := by
  unfold startRamp; dsimp only; (repeat' split) <;> simp
@[simp] theorem startRamp_events : (startRamp l s).events = s.events := by
  unfold startRamp; dsimp only; (repeat' split) <;> simp
@[simp] theorem startRamp_overflow : (startRamp l s).overflow = s.overflow := by
  unfold startRamp; dsimp only; (repeat' split) <;> simp
@[simp] theorem startRamp_freeCount : (startRamp l s).freeCount = s.freeCount := by
  unfold startRamp; dsimp only; (repeat' split) <;> simp

end

/-! ### `startCutover` -/

section

variable (x : Crosspoint) (s : State)

@[simp] theorem startCutover_pending : (startCutover x s).pending = s.pending := by
  unfold startCutover; dsimp only; (repeat' split) <;> simp
@[simp] theorem startCutover_timeStamp : (startCutover x s).timeStamp = s.timeStamp := by
  unfold startCutover; dsimp only; (repeat' split) <;> simp
@[simp] theorem startCutover_mode : (startCutover x s).mode = s.mode := by
  unfold startCutover; dsimp only; (repeat' split) <;> simp
@[simp] theorem startCutover_straps : (startCutover x s).straps = s.straps := by
  unfold startCutover; dsimp only; (repeat' split) <;> simp
@[simp] theorem startCutover_settings : (startCutover x s).settings = s.settings := by
  unfold startCutover; dsimp only; (repeat' split) <;> simp
@[simp] theorem startCutover_chutes : (startCutover x s).chutes = s.chutes := by
  unfold startCutover; dsimp only; (repeat' split) <;> simp
@[simp] theorem startCutover_meters : (startCutover x s).meters = s.meters := by
  unfold startCutover; dsimp only; (repeat' split) <;> simp
@[simp] theorem startCutover_accounts : (startCutover x s).accounts = s.accounts := by
  unfold startCutover; dsimp only; (repeat' split) <;> simp
@[simp] theorem startCutover_totalIn : (startCutover x s).totalIn = s.totalIn := by
  unfold startCutover; dsimp only; (repeat' split) <;> simp
@[simp] theorem startCutover_totalOut : (startCutover x s).totalOut = s.totalOut := by
  unfold startCutover; dsimp only; (repeat' split) <;> simp
@[simp] theorem startCutover_ports : (startCutover x s).ports = s.ports := by
  unfold startCutover; dsimp only; (repeat' split) <;> simp
@[simp] theorem startCutover_powerQueue : (startCutover x s).powerQueue = s.powerQueue := by
  unfold startCutover; dsimp only; (repeat' split) <;> simp
@[simp] theorem startCutover_recency : (startCutover x s).recency = s.recency := by
  unfold startCutover; dsimp only; (repeat' split) <;> simp
@[simp] theorem startCutover_gates : (startCutover x s).gates = s.gates := by
  unfold startCutover; dsimp only; (repeat' split) <;> simp
@[simp] theorem startCutover_servicePending : (startCutover x s).servicePending = s.servicePending := by
  unfold startCutover; dsimp only; (repeat' split) <;> simp
@[simp] theorem startCutover_router : (startCutover x s).router = s.router := by
  unfold startCutover; dsimp only; (repeat' split) <;> simp
@[simp] theorem startCutover_resetPin : (startCutover x s).resetPin = s.resetPin := by
  unfold startCutover; dsimp only; (repeat' split) <;> simp
@[simp] theorem startCutover_cabinet : (startCutover x s).cabinet = s.cabinet := by
  unfold startCutover; dsimp only; (repeat' split) <;> simp
@[simp] theorem startCutover_link : (startCutover x s).link = s.link := by
  unfold startCutover; dsimp only; (repeat' split) <;> simp
@[simp] theorem startCutover_freeCount : (startCutover x s).freeCount = s.freeCount := by
  unfold startCutover; dsimp only; (repeat' split) <;> simp

end

/-! ### `endGuards` -/

section

variable (s : State)

@[simp] theorem endGuards_pending : (endGuards  s).pending = s.pending := by
  rfl
@[simp] theorem endGuards_timeStamp : (endGuards  s).timeStamp = s.timeStamp := by
  rfl
@[simp] theorem endGuards_mode : (endGuards  s).mode = s.mode := by
  rfl
@[simp] theorem endGuards_straps : (endGuards  s).straps = s.straps := by
  rfl
@[simp] theorem endGuards_settings : (endGuards  s).settings = s.settings := by
  rfl
@[simp] theorem endGuards_chutes : (endGuards  s).chutes = s.chutes := by
  rfl
@[simp] theorem endGuards_meters : (endGuards  s).meters = s.meters := by
  rfl
@[simp] theorem endGuards_accounts : (endGuards  s).accounts = s.accounts := by
  rfl
@[simp] theorem endGuards_totalIn : (endGuards  s).totalIn = s.totalIn := by
  rfl
@[simp] theorem endGuards_totalOut : (endGuards  s).totalOut = s.totalOut := by
  rfl
@[simp] theorem endGuards_ports : (endGuards  s).ports = s.ports := by
  rfl
@[simp] theorem endGuards_powerQueue : (endGuards  s).powerQueue = s.powerQueue := by
  rfl
@[simp] theorem endGuards_recency : (endGuards  s).recency = s.recency := by
  rfl
@[simp] theorem endGuards_servicePending : (endGuards  s).servicePending = s.servicePending := by
  rfl
@[simp] theorem endGuards_router : (endGuards  s).router = s.router := by
  rfl
@[simp] theorem endGuards_resetPin : (endGuards  s).resetPin = s.resetPin := by
  rfl
@[simp] theorem endGuards_cutover : (endGuards  s).cutover = s.cutover := by
  rfl
@[simp] theorem endGuards_cabinet : (endGuards  s).cabinet = s.cabinet := by
  rfl
@[simp] theorem endGuards_link : (endGuards  s).link = s.link := by
  rfl
@[simp] theorem endGuards_events : (endGuards  s).events = s.events := by
  rfl
@[simp] theorem endGuards_overflow : (endGuards  s).overflow = s.overflow := by
  rfl
@[simp] theorem endGuards_freeCount : (endGuards  s).freeCount = s.freeCount := by
  rfl

end

/-! ### `enterMute` -/

section

variable (r : Record) (s : State)

@[simp] theorem enterMute_pending : (enterMute r s).pending = s.pending := by
  unfold enterMute; dsimp only; (repeat' split) <;> simp
@[simp] theorem enterMute_timeStamp : (enterMute r s).timeStamp = s.timeStamp := by
  unfold enterMute; dsimp only; (repeat' split) <;> simp
@[simp] theorem enterMute_mode : (enterMute r s).mode = s.mode := by
  unfold enterMute; dsimp only; (repeat' split) <;> simp
@[simp] theorem enterMute_straps : (enterMute r s).straps = s.straps := by
  unfold enterMute; dsimp only; (repeat' split) <;> simp
@[simp] theorem enterMute_settings : (enterMute r s).settings = s.settings := by
  unfold enterMute; dsimp only; (repeat' split) <;> simp
@[simp] theorem enterMute_chutes : (enterMute r s).chutes = s.chutes := by
  unfold enterMute; dsimp only; (repeat' split) <;> simp
@[simp] theorem enterMute_meters : (enterMute r s).meters = s.meters := by
  unfold enterMute; dsimp only; (repeat' split) <;> simp
@[simp] theorem enterMute_accounts : (enterMute r s).accounts = s.accounts := by
  unfold enterMute; dsimp only; (repeat' split) <;> simp
@[simp] theorem enterMute_totalIn : (enterMute r s).totalIn = s.totalIn := by
  unfold enterMute; dsimp only; (repeat' split) <;> simp
@[simp] theorem enterMute_totalOut : (enterMute r s).totalOut = s.totalOut := by
  unfold enterMute; dsimp only; (repeat' split) <;> simp
@[simp] theorem enterMute_ports : (enterMute r s).ports = s.ports := by
  unfold enterMute; dsimp only; (repeat' split) <;> simp
@[simp] theorem enterMute_powerQueue : (enterMute r s).powerQueue = s.powerQueue := by
  unfold enterMute; dsimp only; (repeat' split) <;> simp
@[simp] theorem enterMute_recency : (enterMute r s).recency = s.recency := by
  unfold enterMute; dsimp only; (repeat' split) <;> simp
@[simp] theorem enterMute_servicePending : (enterMute r s).servicePending = s.servicePending := by
  unfold enterMute; dsimp only; (repeat' split) <;> simp
@[simp] theorem enterMute_resetPin : (enterMute r s).resetPin = s.resetPin := by
  unfold enterMute; dsimp only; (repeat' split) <;> simp
@[simp] theorem enterMute_cabinet : (enterMute r s).cabinet = s.cabinet := by
  unfold enterMute; dsimp only; (repeat' split) <;> simp
@[simp] theorem enterMute_link : (enterMute r s).link = s.link := by
  unfold enterMute; dsimp only; (repeat' split) <;> simp
@[simp] theorem enterMute_events : (enterMute r s).events = s.events := by
  unfold enterMute; dsimp only; (repeat' split) <;> simp
@[simp] theorem enterMute_overflow : (enterMute r s).overflow = s.overflow := by
  unfold enterMute; dsimp only; (repeat' split) <;> simp
@[simp] theorem enterMute_freeCount : (enterMute r s).freeCount = s.freeCount := by
  unfold enterMute; dsimp only; (repeat' split) <;> simp

end

/-! ### `enterBand` -/

section

variable (r : Record) (s : State)

@[simp] theorem enterBand_pending : (enterBand r s).pending = s.pending := by
  unfold enterBand; dsimp only; (repeat' split) <;> simp
@[simp] theorem enterBand_timeStamp : (enterBand r s).timeStamp = s.timeStamp := by
  unfold enterBand; dsimp only; (repeat' split) <;> simp
@[simp] theorem enterBand_mode : (enterBand r s).mode = s.mode := by
  unfold enterBand; dsimp only; (repeat' split) <;> simp
@[simp] theorem enterBand_straps : (enterBand r s).straps = s.straps := by
  unfold enterBand; dsimp only; (repeat' split) <;> simp
@[simp] theorem enterBand_settings : (enterBand r s).settings = s.settings := by
  unfold enterBand; dsimp only; (repeat' split) <;> simp
@[simp] theorem enterBand_chutes : (enterBand r s).chutes = s.chutes := by
  unfold enterBand; dsimp only; (repeat' split) <;> simp
@[simp] theorem enterBand_meters : (enterBand r s).meters = s.meters := by
  unfold enterBand; dsimp only; (repeat' split) <;> simp
@[simp] theorem enterBand_accounts : (enterBand r s).accounts = s.accounts := by
  unfold enterBand; dsimp only; (repeat' split) <;> simp
@[simp] theorem enterBand_totalIn : (enterBand r s).totalIn = s.totalIn := by
  unfold enterBand; dsimp only; (repeat' split) <;> simp
@[simp] theorem enterBand_totalOut : (enterBand r s).totalOut = s.totalOut := by
  unfold enterBand; dsimp only; (repeat' split) <;> simp
@[simp] theorem enterBand_ports : (enterBand r s).ports = s.ports := by
  unfold enterBand; dsimp only; (repeat' split) <;> simp
@[simp] theorem enterBand_powerQueue : (enterBand r s).powerQueue = s.powerQueue := by
  unfold enterBand; dsimp only; (repeat' split) <;> simp
@[simp] theorem enterBand_recency : (enterBand r s).recency = s.recency := by
  unfold enterBand; dsimp only; (repeat' split) <;> simp
@[simp] theorem enterBand_gates : (enterBand r s).gates = s.gates := by
  unfold enterBand; dsimp only; (repeat' split) <;> simp
@[simp] theorem enterBand_servicePending : (enterBand r s).servicePending = s.servicePending := by
  unfold enterBand; dsimp only; (repeat' split) <;> simp
@[simp] theorem enterBand_router : (enterBand r s).router = s.router := by
  unfold enterBand; dsimp only; (repeat' split) <;> simp
@[simp] theorem enterBand_resetPin : (enterBand r s).resetPin = s.resetPin := by
  unfold enterBand; dsimp only; (repeat' split) <;> simp
@[simp] theorem enterBand_cabinet : (enterBand r s).cabinet = s.cabinet := by
  unfold enterBand; dsimp only; (repeat' split) <;> simp
@[simp] theorem enterBand_link : (enterBand r s).link = s.link := by
  unfold enterBand; dsimp only; (repeat' split) <;> simp
@[simp] theorem enterBand_events : (enterBand r s).events = s.events := by
  unfold enterBand; dsimp only; (repeat' split) <;> simp
@[simp] theorem enterBand_overflow : (enterBand r s).overflow = s.overflow := by
  unfold enterBand; dsimp only; (repeat' split) <;> simp
@[simp] theorem enterBand_freeCount : (enterBand r s).freeCount = s.freeCount := by
  unfold enterBand; dsimp only; (repeat' split) <;> simp

end

/-! ### `enterAlign` -/

section

variable (s : State)

@[simp] theorem enterAlign_pending : (enterAlign  s).pending = s.pending := by
  rfl
@[simp] theorem enterAlign_timeStamp : (enterAlign  s).timeStamp = s.timeStamp := by
  rfl
@[simp] theorem enterAlign_mode : (enterAlign  s).mode = s.mode := by
  rfl
@[simp] theorem enterAlign_straps : (enterAlign  s).straps = s.straps := by
  rfl
@[simp] theorem enterAlign_settings : (enterAlign  s).settings = s.settings := by
  rfl
@[simp] theorem enterAlign_chutes : (enterAlign  s).chutes = s.chutes := by
  rfl
@[simp] theorem enterAlign_meters : (enterAlign  s).meters = s.meters := by
  rfl
@[simp] theorem enterAlign_accounts : (enterAlign  s).accounts = s.accounts := by
  rfl
@[simp] theorem enterAlign_totalIn : (enterAlign  s).totalIn = s.totalIn := by
  rfl
@[simp] theorem enterAlign_totalOut : (enterAlign  s).totalOut = s.totalOut := by
  rfl
@[simp] theorem enterAlign_ports : (enterAlign  s).ports = s.ports := by
  rfl
@[simp] theorem enterAlign_powerQueue : (enterAlign  s).powerQueue = s.powerQueue := by
  rfl
@[simp] theorem enterAlign_recency : (enterAlign  s).recency = s.recency := by
  rfl
@[simp] theorem enterAlign_gates : (enterAlign  s).gates = s.gates := by
  rfl
@[simp] theorem enterAlign_servicePending : (enterAlign  s).servicePending = s.servicePending := by
  rfl
@[simp] theorem enterAlign_router : (enterAlign  s).router = s.router := by
  rfl
@[simp] theorem enterAlign_resetPin : (enterAlign  s).resetPin = s.resetPin := by
  rfl
@[simp] theorem enterAlign_cabinet : (enterAlign  s).cabinet = s.cabinet := by
  rfl
@[simp] theorem enterAlign_link : (enterAlign  s).link = s.link := by
  rfl
@[simp] theorem enterAlign_events : (enterAlign  s).events = s.events := by
  rfl
@[simp] theorem enterAlign_overflow : (enterAlign  s).overflow = s.overflow := by
  rfl
@[simp] theorem enterAlign_freeCount : (enterAlign  s).freeCount = s.freeCount := by
  rfl

end

/-! ### `leaveLive` -/

section

variable (p : PortNo) (s : State)

@[simp] theorem leaveLive_pending : (leaveLive p s).pending = s.pending := by
  unfold leaveLive; dsimp only; (repeat' split) <;> simp
@[simp] theorem leaveLive_timeStamp : (leaveLive p s).timeStamp = s.timeStamp := by
  unfold leaveLive; dsimp only; (repeat' split) <;> simp
@[simp] theorem leaveLive_mode : (leaveLive p s).mode = s.mode := by
  unfold leaveLive; dsimp only; (repeat' split) <;> simp
@[simp] theorem leaveLive_straps : (leaveLive p s).straps = s.straps := by
  unfold leaveLive; dsimp only; (repeat' split) <;> simp
@[simp] theorem leaveLive_settings : (leaveLive p s).settings = s.settings := by
  unfold leaveLive; dsimp only; (repeat' split) <;> simp
@[simp] theorem leaveLive_meters : (leaveLive p s).meters = s.meters := by
  unfold leaveLive; dsimp only; (repeat' split) <;> simp
@[simp] theorem leaveLive_totalIn : (leaveLive p s).totalIn = s.totalIn := by
  unfold leaveLive; dsimp only; (repeat' split) <;> simp
@[simp] theorem leaveLive_resetPin : (leaveLive p s).resetPin = s.resetPin := by
  unfold leaveLive; dsimp only; (repeat' split) <;> simp
@[simp] theorem leaveLive_link : (leaveLive p s).link = s.link := by
  unfold leaveLive; dsimp only; (repeat' split) <;> simp
@[simp] theorem leaveLive_freeCount : (leaveLive p s).freeCount = s.freeCount := by
  unfold leaveLive; dsimp only; (repeat' split) <;> simp

end

/-! ### `showPort` -/

section

variable (p : PortNo) (s : State)

@[simp] theorem showPort_pending : (showPort p s).pending = s.pending := by
  rfl
@[simp] theorem showPort_timeStamp : (showPort p s).timeStamp = s.timeStamp := by
  rfl
@[simp] theorem showPort_mode : (showPort p s).mode = s.mode := by
  rfl
@[simp] theorem showPort_straps : (showPort p s).straps = s.straps := by
  rfl
@[simp] theorem showPort_settings : (showPort p s).settings = s.settings := by
  rfl
@[simp] theorem showPort_chutes : (showPort p s).chutes = s.chutes := by
  rfl
@[simp] theorem showPort_meters : (showPort p s).meters = s.meters := by
  rfl
@[simp] theorem showPort_accounts : (showPort p s).accounts = s.accounts := by
  rfl
@[simp] theorem showPort_totalIn : (showPort p s).totalIn = s.totalIn := by
  rfl
@[simp] theorem showPort_totalOut : (showPort p s).totalOut = s.totalOut := by
  rfl
@[simp] theorem showPort_powerQueue : (showPort p s).powerQueue = s.powerQueue := by
  rfl
@[simp] theorem showPort_gates : (showPort p s).gates = s.gates := by
  rfl
@[simp] theorem showPort_servicePending : (showPort p s).servicePending = s.servicePending := by
  rfl
@[simp] theorem showPort_resetPin : (showPort p s).resetPin = s.resetPin := by
  rfl
@[simp] theorem showPort_cutover : (showPort p s).cutover = s.cutover := by
  rfl
@[simp] theorem showPort_cabinet : (showPort p s).cabinet = s.cabinet := by
  rfl
@[simp] theorem showPort_link : (showPort p s).link = s.link := by
  rfl
@[simp] theorem showPort_events : (showPort p s).events = s.events := by
  rfl
@[simp] theorem showPort_overflow : (showPort p s).overflow = s.overflow := by
  rfl
@[simp] theorem showPort_freeCount : (showPort p s).freeCount = s.freeCount := by
  rfl

end

/-! ### `enterShow` -/

section

variable (r : Record) (s : State)

@[simp] theorem enterShow_pending : (enterShow r s).pending = s.pending := by
  unfold enterShow; dsimp only; (repeat' split) <;> simp
@[simp] theorem enterShow_timeStamp : (enterShow r s).timeStamp = s.timeStamp := by
  unfold enterShow; dsimp only; (repeat' split) <;> simp
@[simp] theorem enterShow_mode : (enterShow r s).mode = s.mode := by
  unfold enterShow; dsimp only; (repeat' split) <;> simp
@[simp] theorem enterShow_straps : (enterShow r s).straps = s.straps := by
  unfold enterShow; dsimp only; (repeat' split) <;> simp
@[simp] theorem enterShow_settings : (enterShow r s).settings = s.settings := by
  unfold enterShow; dsimp only; (repeat' split) <;> simp
@[simp] theorem enterShow_meters : (enterShow r s).meters = s.meters := by
  unfold enterShow; dsimp only; (repeat' split) <;> simp
@[simp] theorem enterShow_totalIn : (enterShow r s).totalIn = s.totalIn := by
  unfold enterShow; dsimp only; (repeat' split) <;> simp
@[simp] theorem enterShow_resetPin : (enterShow r s).resetPin = s.resetPin := by
  unfold enterShow; dsimp only; (repeat' split) <;> simp
@[simp] theorem enterShow_link : (enterShow r s).link = s.link := by
  unfold enterShow; dsimp only; (repeat' split) <;> simp
@[simp] theorem enterShow_freeCount : (enterShow r s).freeCount = s.freeCount := by
  unfold enterShow; dsimp only; (repeat' split) <;> simp

end

/-! ### `finishCutover` -/

section

variable (r : Record) (s : State)

@[simp] theorem finishCutover_pending : (finishCutover r s).pending = s.pending := by
  rfl
@[simp] theorem finishCutover_timeStamp : (finishCutover r s).timeStamp = s.timeStamp := by
  rfl
@[simp] theorem finishCutover_mode : (finishCutover r s).mode = s.mode := by
  rfl
@[simp] theorem finishCutover_straps : (finishCutover r s).straps = s.straps := by
  rfl
@[simp] theorem finishCutover_settings : (finishCutover r s).settings = s.settings := by
  rfl
@[simp] theorem finishCutover_chutes : (finishCutover r s).chutes = s.chutes := by
  rfl
@[simp] theorem finishCutover_meters : (finishCutover r s).meters = s.meters := by
  rfl
@[simp] theorem finishCutover_accounts : (finishCutover r s).accounts = s.accounts := by
  rfl
@[simp] theorem finishCutover_totalIn : (finishCutover r s).totalIn = s.totalIn := by
  rfl
@[simp] theorem finishCutover_totalOut : (finishCutover r s).totalOut = s.totalOut := by
  rfl
@[simp] theorem finishCutover_ports : (finishCutover r s).ports = s.ports := by
  rfl
@[simp] theorem finishCutover_powerQueue : (finishCutover r s).powerQueue = s.powerQueue := by
  rfl
@[simp] theorem finishCutover_recency : (finishCutover r s).recency = s.recency := by
  rfl
@[simp] theorem finishCutover_gates : (finishCutover r s).gates = s.gates := by
  rfl
@[simp] theorem finishCutover_servicePending : (finishCutover r s).servicePending = s.servicePending := by
  rfl
@[simp] theorem finishCutover_router : (finishCutover r s).router = s.router := by
  rfl
@[simp] theorem finishCutover_resetPin : (finishCutover r s).resetPin = s.resetPin := by
  rfl
@[simp] theorem finishCutover_cabinet : (finishCutover r s).cabinet = s.cabinet := by
  rfl
@[simp] theorem finishCutover_link : (finishCutover r s).link = s.link := by
  rfl
@[simp] theorem finishCutover_freeCount : (finishCutover r s).freeCount = s.freeCount := by
  rfl

end

/-! ### The phases -/

/-- What one thing the controller does at once leaves. -/
theorem nextPhase_keeps {α : Type} (g : State → α)
    (hStart : ∀ x s, g (startCutover x s) = g s) (hMute : ∀ r s, g (enterMute r s) = g s)
    (hBand : ∀ r s, g (enterBand r s) = g s) (hAlign : ∀ s, g (enterAlign s) = g s)
    (hShow : ∀ r s, g (enterShow r s) = g s) (hDone : ∀ r s, g (finishCutover r s) = g s)
    {s t : State} (h : nextPhase s = some t) : g t = g s := by
  unfold nextPhase at h
  repeat' split at h
  all_goals first
    | (cases h; done)
    | (cases h; first | exact hStart _ _ | exact hMute _ _ | exact hBand _ _ | exact hAlign _ | exact hShow _ _ | exact hDone _ _)

/-- What the phases that end within one event leave. -/
theorem runPhases_keeps {α : Type} (g : State → α)
    (hStart : ∀ x s, g (startCutover x s) = g s) (hMute : ∀ r s, g (enterMute r s) = g s)
    (hBand : ∀ r s, g (enterBand r s) = g s) (hAlign : ∀ s, g (enterAlign s) = g s)
    (hShow : ∀ r s, g (enterShow r s) = g s) (hDone : ∀ r s, g (finishCutover r s) = g s)
    (n : Nat) (s : State) : g (runPhases n s) = g s := by
  induction n generalizing s with
  | zero => rfl
  | succ n ih =>
    unfold runPhases
    split
    · rfl
    · next h => rw [ih]; exact nextPhase_keeps g hStart hMute hBand hAlign hShow hDone h

/-- An invariant that each of the controller's steps keeps holds after the phases that end within one event. -/
theorem advanceCutover_keeps_prop (P : State → Prop) (h : ∀ s t, P s → nextPhase s = some t → P t) {s : State} (hs : P s) :
    P (advanceCutover s) := by
  suffices ∀ n s, P s → P (runPhases n s) from this 16 s hs
  intro n
  induction n with
  | zero => exact fun s hs => hs
  | succ n ih =>
    intro s hs
    unfold runPhases
    split
    · exact hs
    · next t ht => exact ih t (h s t hs ht)

/-! ### `advanceCutover` -/

section

variable (s : State)

@[simp] theorem advanceCutover_pending : (advanceCutover  s).pending = s.pending := by
  exact runPhases_keeps State.pending (fun _ _ => by simp) (fun _ _ => by simp) (fun _ _ => by simp)
    (fun _ => by simp) (fun _ _ => by simp) (fun _ _ => by simp) 16 s
@[simp] theorem advanceCutover_timeStamp : (advanceCutover  s).timeStamp = s.timeStamp := by
  exact runPhases_keeps State.timeStamp (fun _ _ => by simp) (fun _ _ => by simp) (fun _ _ => by simp)
    (fun _ => by simp) (fun _ _ => by simp) (fun _ _ => by simp) 16 s
@[simp] theorem advanceCutover_mode : (advanceCutover  s).mode = s.mode := by
  exact runPhases_keeps State.mode (fun _ _ => by simp) (fun _ _ => by simp) (fun _ _ => by simp)
    (fun _ => by simp) (fun _ _ => by simp) (fun _ _ => by simp) 16 s
@[simp] theorem advanceCutover_straps : (advanceCutover  s).straps = s.straps := by
  exact runPhases_keeps State.straps (fun _ _ => by simp) (fun _ _ => by simp) (fun _ _ => by simp)
    (fun _ => by simp) (fun _ _ => by simp) (fun _ _ => by simp) 16 s
@[simp] theorem advanceCutover_settings : (advanceCutover  s).settings = s.settings := by
  exact runPhases_keeps State.settings (fun _ _ => by simp) (fun _ _ => by simp) (fun _ _ => by simp)
    (fun _ => by simp) (fun _ _ => by simp) (fun _ _ => by simp) 16 s
@[simp] theorem advanceCutover_meters : (advanceCutover  s).meters = s.meters := by
  exact runPhases_keeps State.meters (fun _ _ => by simp) (fun _ _ => by simp) (fun _ _ => by simp)
    (fun _ => by simp) (fun _ _ => by simp) (fun _ _ => by simp) 16 s
@[simp] theorem advanceCutover_totalIn : (advanceCutover  s).totalIn = s.totalIn := by
  exact runPhases_keeps State.totalIn (fun _ _ => by simp) (fun _ _ => by simp) (fun _ _ => by simp)
    (fun _ => by simp) (fun _ _ => by simp) (fun _ _ => by simp) 16 s
@[simp] theorem advanceCutover_resetPin : (advanceCutover  s).resetPin = s.resetPin := by
  exact runPhases_keeps State.resetPin (fun _ _ => by simp) (fun _ _ => by simp) (fun _ _ => by simp)
    (fun _ => by simp) (fun _ _ => by simp) (fun _ _ => by simp) 16 s
@[simp] theorem advanceCutover_link : (advanceCutover  s).link = s.link := by
  exact runPhases_keeps State.link (fun _ _ => by simp) (fun _ _ => by simp) (fun _ _ => by simp)
    (fun _ => by simp) (fun _ _ => by simp) (fun _ _ => by simp) 16 s
@[simp] theorem advanceCutover_freeCount : (advanceCutover  s).freeCount = s.freeCount := by
  exact runPhases_keeps State.freeCount (fun _ _ => by simp) (fun _ _ => by simp) (fun _ _ => by simp)
    (fun _ => by simp) (fun _ _ => by simp) (fun _ _ => by simp) 16 s

end

/-! ### `supersede` -/

section

variable (s : State)

@[simp] theorem supersede_pending : (supersede  s).pending = s.pending := by
  unfold supersede; (repeat' split) <;> simp
@[simp] theorem supersede_timeStamp : (supersede  s).timeStamp = s.timeStamp := by
  unfold supersede; (repeat' split) <;> simp
@[simp] theorem supersede_mode : (supersede  s).mode = s.mode := by
  unfold supersede; (repeat' split) <;> simp
@[simp] theorem supersede_straps : (supersede  s).straps = s.straps := by
  unfold supersede; (repeat' split) <;> simp
@[simp] theorem supersede_settings : (supersede  s).settings = s.settings := by
  unfold supersede; (repeat' split) <;> simp
@[simp] theorem supersede_chutes : (supersede  s).chutes = s.chutes := by
  unfold supersede; (repeat' split) <;> simp
@[simp] theorem supersede_meters : (supersede  s).meters = s.meters := by
  unfold supersede; (repeat' split) <;> simp
@[simp] theorem supersede_accounts : (supersede  s).accounts = s.accounts := by
  unfold supersede; (repeat' split) <;> simp
@[simp] theorem supersede_totalIn : (supersede  s).totalIn = s.totalIn := by
  unfold supersede; (repeat' split) <;> simp
@[simp] theorem supersede_totalOut : (supersede  s).totalOut = s.totalOut := by
  unfold supersede; (repeat' split) <;> simp
@[simp] theorem supersede_ports : (supersede  s).ports = s.ports := by
  unfold supersede; (repeat' split) <;> simp
@[simp] theorem supersede_powerQueue : (supersede  s).powerQueue = s.powerQueue := by
  unfold supersede; (repeat' split) <;> simp
@[simp] theorem supersede_recency : (supersede  s).recency = s.recency := by
  unfold supersede; (repeat' split) <;> simp
@[simp] theorem supersede_gates : (supersede  s).gates = s.gates := by
  unfold supersede; (repeat' split) <;> simp
@[simp] theorem supersede_servicePending : (supersede  s).servicePending = s.servicePending := by
  unfold supersede; (repeat' split) <;> simp
@[simp] theorem supersede_router : (supersede  s).router = s.router := by
  unfold supersede; (repeat' split) <;> simp
@[simp] theorem supersede_resetPin : (supersede  s).resetPin = s.resetPin := by
  unfold supersede; (repeat' split) <;> simp
@[simp] theorem supersede_cabinet : (supersede  s).cabinet = s.cabinet := by
  unfold supersede; (repeat' split) <;> simp
@[simp] theorem supersede_link : (supersede  s).link = s.link := by
  unfold supersede; (repeat' split) <;> simp
@[simp] theorem supersede_freeCount : (supersede  s).freeCount = s.freeCount := by
  unfold supersede; (repeat' split) <;> simp

end

/-! ### `requestFor` -/

section

variable (x : Crosspoint) (s : State)

@[simp] theorem requestFor_pending : (requestFor x s).pending = s.pending := by
  unfold requestFor; (repeat' split) <;> simp
@[simp] theorem requestFor_timeStamp : (requestFor x s).timeStamp = s.timeStamp := by
  unfold requestFor; (repeat' split) <;> simp
@[simp] theorem requestFor_mode : (requestFor x s).mode = s.mode := by
  unfold requestFor; (repeat' split) <;> simp
@[simp] theorem requestFor_straps : (requestFor x s).straps = s.straps := by
  unfold requestFor; (repeat' split) <;> simp
@[simp] theorem requestFor_settings : (requestFor x s).settings = s.settings := by
  unfold requestFor; (repeat' split) <;> simp
@[simp] theorem requestFor_meters : (requestFor x s).meters = s.meters := by
  unfold requestFor; (repeat' split) <;> simp
@[simp] theorem requestFor_totalIn : (requestFor x s).totalIn = s.totalIn := by
  unfold requestFor; (repeat' split) <;> simp
@[simp] theorem requestFor_resetPin : (requestFor x s).resetPin = s.resetPin := by
  unfold requestFor; (repeat' split) <;> simp
@[simp] theorem requestFor_link : (requestFor x s).link = s.link := by
  unfold requestFor; (repeat' split) <;> simp
@[simp] theorem requestFor_freeCount : (requestFor x s).freeCount = s.freeCount := by
  unfold requestFor; (repeat' split) <;> simp

end

/-! ### `makePending` -/

section

variable (x : Crosspoint) (s : State)

@[simp] theorem makePending_pending : (makePending x s).pending = s.pending := by
  unfold makePending; simp
@[simp] theorem makePending_timeStamp : (makePending x s).timeStamp = s.timeStamp := by
  unfold makePending; simp
@[simp] theorem makePending_mode : (makePending x s).mode = s.mode := by
  unfold makePending; simp
@[simp] theorem makePending_straps : (makePending x s).straps = s.straps := by
  unfold makePending; simp
@[simp] theorem makePending_settings : (makePending x s).settings = s.settings := by
  unfold makePending; simp
@[simp] theorem makePending_meters : (makePending x s).meters = s.meters := by
  unfold makePending; simp
@[simp] theorem makePending_totalIn : (makePending x s).totalIn = s.totalIn := by
  unfold makePending; simp
@[simp] theorem makePending_resetPin : (makePending x s).resetPin = s.resetPin := by
  unfold makePending; simp
@[simp] theorem makePending_link : (makePending x s).link = s.link := by
  unfold makePending; simp
@[simp] theorem makePending_freeCount : (makePending x s).freeCount = s.freeCount := by
  unfold makePending; simp

end

/-! ### `makeSelection` -/

section

variable (x : Crosspoint) (s : State)

@[simp] theorem makeSelection_pending : (makeSelection x s).pending = s.pending := by
  unfold makeSelection; (repeat' split) <;> simp
@[simp] theorem makeSelection_timeStamp : (makeSelection x s).timeStamp = s.timeStamp := by
  unfold makeSelection; (repeat' split) <;> simp
@[simp] theorem makeSelection_mode : (makeSelection x s).mode = s.mode := by
  unfold makeSelection; (repeat' split) <;> simp
@[simp] theorem makeSelection_straps : (makeSelection x s).straps = s.straps := by
  unfold makeSelection; (repeat' split) <;> simp
@[simp] theorem makeSelection_settings : (makeSelection x s).settings = s.settings := by
  unfold makeSelection; (repeat' split) <;> simp
@[simp] theorem makeSelection_meters : (makeSelection x s).meters = s.meters := by
  unfold makeSelection; (repeat' split) <;> simp
@[simp] theorem makeSelection_totalIn : (makeSelection x s).totalIn = s.totalIn := by
  unfold makeSelection; (repeat' split) <;> simp
@[simp] theorem makeSelection_resetPin : (makeSelection x s).resetPin = s.resetPin := by
  unfold makeSelection; (repeat' split) <;> simp
@[simp] theorem makeSelection_link : (makeSelection x s).link = s.link := by
  unfold makeSelection; (repeat' split) <;> simp
@[simp] theorem makeSelection_freeCount : (makeSelection x s).freeCount = s.freeCount := by
  unfold makeSelection; (repeat' split) <;> simp

end

/-! ### `targetLost` -/

section

variable (r : Record) (s : State)

@[simp] theorem targetLost_pending : (targetLost r s).pending = s.pending := by
  unfold targetLost; dsimp only; (repeat' split) <;> simp
@[simp] theorem targetLost_timeStamp : (targetLost r s).timeStamp = s.timeStamp := by
  unfold targetLost; dsimp only; (repeat' split) <;> simp
@[simp] theorem targetLost_mode : (targetLost r s).mode = s.mode := by
  unfold targetLost; dsimp only; (repeat' split) <;> simp
@[simp] theorem targetLost_straps : (targetLost r s).straps = s.straps := by
  unfold targetLost; dsimp only; (repeat' split) <;> simp
@[simp] theorem targetLost_settings : (targetLost r s).settings = s.settings := by
  unfold targetLost; dsimp only; (repeat' split) <;> simp
@[simp] theorem targetLost_meters : (targetLost r s).meters = s.meters := by
  unfold targetLost; dsimp only; (repeat' split) <;> simp
@[simp] theorem targetLost_totalIn : (targetLost r s).totalIn = s.totalIn := by
  unfold targetLost; dsimp only; (repeat' split) <;> simp
@[simp] theorem targetLost_resetPin : (targetLost r s).resetPin = s.resetPin := by
  unfold targetLost; dsimp only; (repeat' split) <;> simp
@[simp] theorem targetLost_link : (targetLost r s).link = s.link := by
  unfold targetLost; dsimp only; (repeat' split) <;> simp
@[simp] theorem targetLost_freeCount : (targetLost r s).freeCount = s.freeCount := by
  unfold targetLost; dsimp only; (repeat' split) <;> simp

end

/-! ### `tellTargetLost` -/

section

variable (p : PortNo) (s : State)

@[simp] theorem tellTargetLost_pending : (tellTargetLost p s).pending = s.pending := by
  unfold tellTargetLost; (repeat' split) <;> simp
@[simp] theorem tellTargetLost_timeStamp : (tellTargetLost p s).timeStamp = s.timeStamp := by
  unfold tellTargetLost; (repeat' split) <;> simp
@[simp] theorem tellTargetLost_mode : (tellTargetLost p s).mode = s.mode := by
  unfold tellTargetLost; (repeat' split) <;> simp
@[simp] theorem tellTargetLost_straps : (tellTargetLost p s).straps = s.straps := by
  unfold tellTargetLost; (repeat' split) <;> simp
@[simp] theorem tellTargetLost_settings : (tellTargetLost p s).settings = s.settings := by
  unfold tellTargetLost; (repeat' split) <;> simp
@[simp] theorem tellTargetLost_meters : (tellTargetLost p s).meters = s.meters := by
  unfold tellTargetLost; (repeat' split) <;> simp
@[simp] theorem tellTargetLost_totalIn : (tellTargetLost p s).totalIn = s.totalIn := by
  unfold tellTargetLost; (repeat' split) <;> simp
@[simp] theorem tellTargetLost_resetPin : (tellTargetLost p s).resetPin = s.resetPin := by
  unfold tellTargetLost; (repeat' split) <;> simp
@[simp] theorem tellTargetLost_link : (tellTargetLost p s).link = s.link := by
  unfold tellTargetLost; (repeat' split) <;> simp
@[simp] theorem tellTargetLost_freeCount : (tellTargetLost p s).freeCount = s.freeCount := by
  unfold tellTargetLost; (repeat' split) <;> simp

end

/-! ### `liveLost` -/

section

variable (p : PortNo) (s : State)

@[simp] theorem liveLost_pending : (liveLost p s).pending = s.pending := by
  unfold liveLost; dsimp only; (repeat' split) <;> simp
@[simp] theorem liveLost_timeStamp : (liveLost p s).timeStamp = s.timeStamp := by
  unfold liveLost; dsimp only; (repeat' split) <;> simp
@[simp] theorem liveLost_mode : (liveLost p s).mode = s.mode := by
  unfold liveLost; dsimp only; (repeat' split) <;> simp
@[simp] theorem liveLost_straps : (liveLost p s).straps = s.straps := by
  unfold liveLost; dsimp only; (repeat' split) <;> simp
@[simp] theorem liveLost_settings : (liveLost p s).settings = s.settings := by
  unfold liveLost; dsimp only; (repeat' split) <;> simp
@[simp] theorem liveLost_meters : (liveLost p s).meters = s.meters := by
  unfold liveLost; dsimp only; (repeat' split) <;> simp
@[simp] theorem liveLost_totalIn : (liveLost p s).totalIn = s.totalIn := by
  unfold liveLost; dsimp only; (repeat' split) <;> simp
@[simp] theorem liveLost_resetPin : (liveLost p s).resetPin = s.resetPin := by
  unfold liveLost; dsimp only; (repeat' split) <;> simp
@[simp] theorem liveLost_link : (liveLost p s).link = s.link := by
  unfold liveLost; dsimp only; (repeat' split) <;> simp
@[simp] theorem liveLost_freeCount : (liveLost p s).freeCount = s.freeCount := by
  unfold liveLost; dsimp only; (repeat' split) <;> simp

end

/-! ### `boardLost` -/

section

variable (p : PortNo) (s : State)

@[simp] theorem boardLost_pending : (boardLost p s).pending = s.pending := by
  unfold boardLost; dsimp only; (repeat' split) <;> simp
@[simp] theorem boardLost_timeStamp : (boardLost p s).timeStamp = s.timeStamp := by
  unfold boardLost; dsimp only; (repeat' split) <;> simp
@[simp] theorem boardLost_mode : (boardLost p s).mode = s.mode := by
  unfold boardLost; dsimp only; (repeat' split) <;> simp
@[simp] theorem boardLost_straps : (boardLost p s).straps = s.straps := by
  unfold boardLost; dsimp only; (repeat' split) <;> simp
@[simp] theorem boardLost_settings : (boardLost p s).settings = s.settings := by
  unfold boardLost; dsimp only; (repeat' split) <;> simp
@[simp] theorem boardLost_meters : (boardLost p s).meters = s.meters := by
  unfold boardLost; dsimp only; (repeat' split) <;> simp
@[simp] theorem boardLost_totalIn : (boardLost p s).totalIn = s.totalIn := by
  unfold boardLost; dsimp only; (repeat' split) <;> simp
@[simp] theorem boardLost_resetPin : (boardLost p s).resetPin = s.resetPin := by
  unfold boardLost; dsimp only; (repeat' split) <;> simp
@[simp] theorem boardLost_link : (boardLost p s).link = s.link := by
  unfold boardLost; dsimp only; (repeat' split) <;> simp
@[simp] theorem boardLost_freeCount : (boardLost p s).freeCount = s.freeCount := by
  unfold boardLost; dsimp only; (repeat' split) <;> simp

end

/-! ### `boardReady` -/

section

variable (p : PortNo) (s : State)

@[simp] theorem boardReady_pending : (boardReady p s).pending = s.pending := by
  unfold boardReady; dsimp only; (repeat' split) <;> simp
@[simp] theorem boardReady_timeStamp : (boardReady p s).timeStamp = s.timeStamp := by
  unfold boardReady; dsimp only; (repeat' split) <;> simp
@[simp] theorem boardReady_mode : (boardReady p s).mode = s.mode := by
  unfold boardReady; dsimp only; (repeat' split) <;> simp
@[simp] theorem boardReady_straps : (boardReady p s).straps = s.straps := by
  unfold boardReady; dsimp only; (repeat' split) <;> simp
@[simp] theorem boardReady_settings : (boardReady p s).settings = s.settings := by
  unfold boardReady; dsimp only; (repeat' split) <;> simp
@[simp] theorem boardReady_meters : (boardReady p s).meters = s.meters := by
  unfold boardReady; dsimp only; (repeat' split) <;> simp
@[simp] theorem boardReady_totalIn : (boardReady p s).totalIn = s.totalIn := by
  unfold boardReady; dsimp only; (repeat' split) <;> simp
@[simp] theorem boardReady_resetPin : (boardReady p s).resetPin = s.resetPin := by
  unfold boardReady; dsimp only; (repeat' split) <;> simp
@[simp] theorem boardReady_link : (boardReady p s).link = s.link := by
  unfold boardReady; dsimp only; (repeat' split) <;> simp
@[simp] theorem boardReady_freeCount : (boardReady p s).freeCount = s.freeCount := by
  unfold boardReady; dsimp only; (repeat' split) <;> simp

end

/-! ### `offerVsync` -/

section

variable (p : PortNo) (s : State)

@[simp] theorem offerVsync_pending : (offerVsync p s).pending = s.pending := by
  unfold offerVsync; (repeat' split) <;> simp
@[simp] theorem offerVsync_timeStamp : (offerVsync p s).timeStamp = s.timeStamp := by
  unfold offerVsync; (repeat' split) <;> simp
@[simp] theorem offerVsync_mode : (offerVsync p s).mode = s.mode := by
  unfold offerVsync; (repeat' split) <;> simp
@[simp] theorem offerVsync_straps : (offerVsync p s).straps = s.straps := by
  unfold offerVsync; (repeat' split) <;> simp
@[simp] theorem offerVsync_settings : (offerVsync p s).settings = s.settings := by
  unfold offerVsync; (repeat' split) <;> simp
@[simp] theorem offerVsync_meters : (offerVsync p s).meters = s.meters := by
  unfold offerVsync; (repeat' split) <;> simp
@[simp] theorem offerVsync_totalIn : (offerVsync p s).totalIn = s.totalIn := by
  unfold offerVsync; (repeat' split) <;> simp
@[simp] theorem offerVsync_resetPin : (offerVsync p s).resetPin = s.resetPin := by
  unfold offerVsync; (repeat' split) <;> simp
@[simp] theorem offerVsync_link : (offerVsync p s).link = s.link := by
  unfold offerVsync; (repeat' split) <;> simp
@[simp] theorem offerVsync_freeCount : (offerVsync p s).freeCount = s.freeCount := by
  unfold offerVsync; (repeat' split) <;> simp

end

/-! ### `reportIdle` -/

section

variable (s : State)

@[simp] theorem reportIdle_pending : (reportIdle  s).pending = s.pending := by
  unfold reportIdle; (repeat' split) <;> simp
@[simp] theorem reportIdle_timeStamp : (reportIdle  s).timeStamp = s.timeStamp := by
  unfold reportIdle; (repeat' split) <;> simp
@[simp] theorem reportIdle_mode : (reportIdle  s).mode = s.mode := by
  unfold reportIdle; (repeat' split) <;> simp
@[simp] theorem reportIdle_straps : (reportIdle  s).straps = s.straps := by
  unfold reportIdle; (repeat' split) <;> simp
@[simp] theorem reportIdle_settings : (reportIdle  s).settings = s.settings := by
  unfold reportIdle; (repeat' split) <;> simp
@[simp] theorem reportIdle_meters : (reportIdle  s).meters = s.meters := by
  unfold reportIdle; (repeat' split) <;> simp
@[simp] theorem reportIdle_totalIn : (reportIdle  s).totalIn = s.totalIn := by
  unfold reportIdle; (repeat' split) <;> simp
@[simp] theorem reportIdle_resetPin : (reportIdle  s).resetPin = s.resetPin := by
  unfold reportIdle; (repeat' split) <;> simp
@[simp] theorem reportIdle_link : (reportIdle  s).link = s.link := by
  unfold reportIdle; (repeat' split) <;> simp
@[simp] theorem reportIdle_freeCount : (reportIdle  s).freeCount = s.freeCount := by
  unfold reportIdle; (repeat' split) <;> simp

end

end Sys2Proof.Machine
end

