-- ==== Sys2Proof/Laws/Link.lean ====
section
/-! SUPPORT. How a command of the selector port is taken: what a transaction of each kind comes to, and what the answers of a
command's body leave. -/

namespace Sys2Proof.Machine

/-- A transaction that began with READY high takes its command. -/
theorem endCommand_of_command (frame : List Byte) (code : Byte) (judged : State → State × Answer) (s : State)
    (h : s.link.transaction = .command) : endCommand frame code judged s = takenWith frame code judged s := by
  unfold endCommand
  rw [h]

theorem endCommand_of_dropped (frame : List Byte) (code : Byte) (judged : State → State × Answer) (s : State)
    (h : s.link.transaction = .dropped) : endCommand frame code judged s = modLink (droppedLink (frame.length - 1)) s := by
  unfold endCommand
  rw [h]

theorem endCommand_of_ignored (frame : List Byte) (code : Byte) (judged : State → State × Answer) (s : State)
    (h : s.link.transaction = .ignored) :
    endCommand frame code judged s = modLink (ignoredLink (frame.length - 1)) s := by
  unfold endCommand
  rw [h]

/-- A taken command whose payload has its length, of 120 bytes at most: its body on the state with the frame taken, and the answer prepared. -/
theorem takeCommand_of_command (code : Code) (payload : List Byte) (body : State → State × Answer) (s : State)
    (h : s.link.transaction = .command) (fits : code.takes payload = true) :
    takeCommand code payload body s = takenWith (commandFrame code payload) code.byte body s := by
  unfold takeCommand
  rw [endCommand_of_command _ _ _ _ h]
  unfold takenWith
  simp [fits]

/-- A command whose body answers `r` and hands on `t`: the answer is in preparation on `t`. -/
theorem takenWith_of_answer (frame : List Byte) (code : Byte) (body : State → State × Answer) (s t : State) (r : Answer)
    (h : body (modLink (takenLink frame) s) = (t, r)) :
    takenWith frame code body s = modLink (prepare (preparingOf code r)) t := by
  unfold takenWith
  rw [h]

/-- Refusing, answering INVALID and answering DONE hand the state on as it stands. -/
@[simp] theorem refused_state (r : RefusalReason) (s : State) : (refused r s).1 = s := rfl
@[simp] theorem invalid_state (o : Nat) (s : State) : (invalid o s).1 = s := rfl
@[simp] theorem done_state (p : List Byte) (s : State) : (done p s).1 = s := rfl

end Sys2Proof.Machine
end

