-- ==== Sys2Proof/Laws/Router.lean ====
section
/-! SUPPORT. What a debounced change does to the START presses passed through, and what it leaves of the router. -/

namespace Sys2Proof.Machine

section

variable (c : Control) (passes : Station → Bool) (r : Router)

/-- All that `setPassed` can do: the mark of one station, where the control is its START. -/
theorem setPassed_cases : (setPassed c passes r = r ∧ ∀ t, ofStation c ≠ some (t, startIndex)) ∨
    ∃ t, ofStation c = some (t, startIndex) ∧ setPassed c passes r = { r with passed := setSlot r.passed t (passes t) } := by
  unfold setPassed
  split
  · rename_i t i h
    split
    · rename_i hi
      subst hi
      exact .inr ⟨t, h, rfl⟩
    · rename_i hi
      exact .inl ⟨rfl, fun t' h' => hi (by rw [h] at h'; exact (Prod.mk.inj (Option.some.inj h')).2)⟩
  · rename_i h
    exact .inl ⟨rfl, fun t h' => by rw [h] at h'; exact nomatch h'⟩

/-- The marks of the STARTs apart, the router is left as it was. -/
theorem setPassed_frame : setPassed c passes r = { r with passed := (setPassed c passes r).passed } := by
  rcases setPassed_cases c passes r with ⟨h, -⟩ | ⟨t, -, h⟩ <;> rw [h]

@[simp] theorem setPassed_raw : (setPassed c passes r).raw = r.raw := by rw [setPassed_frame]
@[simp] theorem setPassed_level : (setPassed c passes r).level = r.level := by rw [setPassed_frame]
@[simp] theorem setPassed_timers : (setPassed c passes r).timers = r.timers := by rw [setPassed_frame]
@[simp] theorem setPassed_marks : (setPassed c passes r).marks = r.marks := by rw [setPassed_frame]
@[simp] theorem setPassed_routed : (setPassed c passes r).routed = r.routed := by rw [setPassed_frame]
@[simp] theorem setPassed_chord : (setPassed c passes r).chord = r.chord := by rw [setPassed_frame]
@[simp] theorem setPassed_chordTimer : (setPassed c passes r).chordTimer = r.chordTimer := by rw [setPassed_frame]

end

/-- `notePass` changes the marks of the STARTs and nothing else. -/
theorem notePass_frame (c : Control) (s : State) :
    notePass c s = { s with router := { s.router with passed := (notePass c s).router.passed } } := by
  have h := setPassed_frame c (passesThrough s) s.router
  show { s with router := _ } = { s with router := { s.router with passed := (setPassed c (passesThrough s) s.router).passed } }
  rw [← h]

end Sys2Proof.Machine
end

