-- ==== Sys2Proof/Tests/Slice0.lean ====
section
/-! SUPPORT. Small tests of the model, their expected values from spec/ (the rule is named at each), and the witnesses of the
statements' hypotheses: for every statement that has any, a state and operands that meet them, clause by clause, at boundary
values where a clause has a range. -/

namespace Sys2Proof.Tests

open Sys2Proof.Machine Sys2Proof.Safety

/-! ### States for the tests -/

/-- A selector port on which a command transaction began with READY high. -/
def openLink : Link := { powerOnLink with transaction := .command }

/-- The part in a mode, with such a transaction open and no event waiting. -/
def asked (m : Mode) : State := { State.reset with mode := m, link := openLink, events := [] }

/-- The board of 02's worked figures: c = 2, k = 3, P = 2, s = 1, credit max 9, COMMON, station 1 on position 1, a confirm
source on coin line 1. -/
def board : Profile :=
  { noProfile with
    stationMap := #v[some 0, none, none, none]
    c := 2
    k := 3
    price := 2
    pulseWidth := 50
    pulseGap := 60
    pressWidth := 100
    confirm := #v[some 0, none, none, none]
    confirmTimeout := 500
    lockoutWait := 1000
    playGuard := 2
    powerSettle := 100
    bootTimeout := 5
    load := 5 }

/-- The part in RUN with the board's profile on port `p`, in a state. -/
def withBoard (p : PortNo) (st : PortState) (s : State) : State :=
  modPort p (fun pt => { pt with state := st, profile := some board, check := false, counters := [emptyCounter] }) s

/-- A locked monitor in band L. -/
def lockedMonitor : Monitor :=
  { stoppedMonitor false with
    state := .locked
    frozen := some .l
    reported := some ⟨510, 262⟩
    estimate := some 510
    lastEdge := some 250 }

/-- Port 1 LIVE with the board, account 1 at 240 ticks. -/
def playing : State :=
  let s := withBoard 0 .live (asked .run)
  { modPort 0 (fun pt => { pt with monitor := lockedMonitor }) s with
    accounts := #v[240, 0, 0, 0]
    recency := [0]
    router := { s.router with routed := some 0 }
    cutover := { s.cutover with live := .port 0 } }

/-- Cabinet control `c` at the end of the debounce of its press. -/
def held (c : Control) (s : State) : State :=
  { s with
    router := { s.router with
      raw := setSlot s.router.raw c true
      timers := setSlot s.router.timers c (some 0) } }

/-- The press of station `t`'s START that is at the end of its debounce. -/
def pressed (t : Station) (s : State) : State := held (startOf t) s

/-- Gate 1 at a step of a funding on port 1, position 1. -/
def funding (g : Gate) : State :=
  modGate 0 (fun _ => { g with kind := .ordinary, place := some ⟨0, 0, 0, 0⟩, paying := some 0, entry := some 0 }) playing

/-- Gate 1 PULSING at a phase. -/
def sending (ph : PulsePhase) (begun : Nat) : State :=
  funding { idleGate with
    state := .pulsing
    phase := ph
    begun := begun
    planned := 2
    inFlight := 120
    phaseTimer := if ph = .lockoutHold then none else some 0
    lockoutTimer := if ph = .lockoutHold then some 0 else none }

/-- The next state of a command that has one. -/
def after (c : Instr) (s : State) : State :=
  match exec c s with
  | .next t => t
  | .fault _ | .refused _ => s

/-- Port 1 LIVE with the worked board, the 240 ticks of account 1 taken in, the RESET pin at the end of its filter, and the
warm reset of a RESTART waiting. -/
def balanced : State :=
  { playing with
    totalIn := 240
    resetPin := ⟨true, false, some 0⟩
    link := { playing.link with preparing := .restart } }

/-- The ports, the sequencer and the cutover controller of that state agree. -/
theorem balanced_boards : BoardsRight balanced where
  absent := by decide
  monitors := by decide
  timers := by decide
  queue := by decide
  recency := by decide
  load := by decide
  setup := by decide
  live := by
    refine ⟨by decide, fun p _ h => ?_⟩
    have : p = 0 := by
      have h' : Crosspoint.port 0 = .port p := h
      exact (Crosspoint.port.inj h').symm
    subst this
    decide
  cutover := fun r h => absurd h (by intro h'; exact nomatch (show (none : Option Record) = some r from h'))
  routed := by decide
  menuBand := by decide

theorem balanced_funding : FundingRight balanced where
  counters := by
    intro p
    refine ⟨fun pr h => ?_, by revert p; decide, by revert p; decide, by revert p; decide⟩
    have key : ∀ p : PortNo, ∀ pr ∈ (balanced.port p).profile,
        MoneyFields pr ∧ (balanced.port p).counters.length = counterCount pr := by decide
    exact key p pr h
  gates := by
    intro t
    have h : balanced.gate t = idleGate := by revert t; decide
    simp [GateRight, h, clearedGate, idleGate]
  arbiters := by
    intro p l
    unfold ArbiterRight
    revert p l
    decide
  done := fun r h => absurd h (by intro h'; exact nomatch (show (none : Option Record) = some r from h'))
  shared := by decide
  passed := by decide

theorem balanced_credits : CreditsRight balanced := by
  have idle : ∀ t : Station, balanced.gate t = idleGate := by decide
  refine ⟨fun t => by simp [KindRight, idle t, idleGate], fun p i c h => ?_⟩
  have counters : ∀ p : PortNo, (balanced.port p).counters = if p = 0 then [emptyCounter] else [] := by decide
  have here : p = 0 ∧ i = 0 ∧ c = emptyCounter := by
    rw [counters p] at h
    split at h
    · cases i <;> simp_all
    · simp at h
  obtain ⟨rfl, rfl, rfl⟩ := here
  exact {
    single := by decide
    sound := fun r hr => nomatch (show r ∈ ([] : List Claim) from hr)
    complete := fun t ht => by rw [idle t] at ht; exact ht.elim
    own := by decide
    shared := by decide
    lots := by decide
    bound := by decide
    count := by decide }

theorem balanced_expect : ExpectRight balanced := by
  intro p m
  have idle : ∀ t : Station, balanced.gate t = idleGate := by decide
  have none_queued : ∀ (p : PortNo) (m : OutputNo), slot (balanced.port p).expect m = [] := by decide
  refine ⟨by simp [none_queued p m], fun t => ?_, by simp [none_queued p m]⟩
  simp [none_queued p m, Expects, idle t, idleGate]

/-- The board with four positions, a station on each, and one coin line for all. -/
def crewBoard : Profile := { board with positions := 4, stationMap := #v[some 0, some 1, some 2, some 3] }

/-- A gate at an ordinary funding of one bundle on port 1, paid from account 1. -/
def crewGate (t : Fin 4) (g : Gate) : Gate :=
  { g with kind := .ordinary, place := some ⟨0, t, 0, 0⟩, paying := some 0, planned := 2, entry := some 0 }

/-- Port 1 LIVE with all four gates busy: gate 1 PULSING in the first pulse of its bundle, gate 2 WAITING for the line, gate 3
CONFIRMING with its bundle's credits on the counter, and gate 4 PRESSING. -/
def crewed : State :=
  { modPort 0 (fun pt => { pt with
      profile := some crewBoard
      counters := [⟨[⟨.account 0, 3, 40⟩], [⟨0, 0, 0, 3⟩, ⟨1, 0, 0, 3⟩, ⟨2, 3, 0, 0⟩]⟩]
      arbiters := setSlot pt.arbiters 0 ⟨some 0, [1]⟩
      expect := #v[[⟨2, 1⟩, ⟨0, 2⟩, ⟨1, 2⟩], []] }) balanced with
    gates := #v[
      crewGate 0 { idleGate with state := .pulsing, phase := .held, phaseTimer := some 9, begun := 1, inFlight := 120 },
      crewGate 1 { idleGate with state := .waiting, inFlight := 120 },
      crewGate 2 { idleGate with state := .confirming, confirmTimer := some 9, begun := 2, bundles := 1 },
      crewGate 3 { idleGate with state := .pressing, pressTimer := some 9, begun := 2, bundles := 1 }] }

theorem crewed_boards : BoardsRight crewed where
  absent := by decide
  monitors := by decide
  timers := by decide
  queue := by decide
  recency := by decide
  load := by decide
  setup := by decide
  live := ⟨by decide, fun p _ h => by
    obtain rfl : 0 = p := Crosspoint.port.inj (show Crosspoint.port 0 = .port p from h)
    decide⟩
  cutover := fun r h => nomatch (show (none : Option Record) = some r from h)
  routed := by decide
  menuBand := by decide

theorem crewed_funding : FundingRight crewed where
  counters := by
    intro p
    refine ⟨fun pr h => ?_, by revert p; decide, by revert p; decide, by revert p; decide⟩
    have key : ∀ p : PortNo, ∀ pr ∈ (crewed.port p).profile,
        MoneyFields pr ∧ (crewed.port p).counters.length = counterCount pr := by decide
    exact key p pr h
  gates := by
    intro t
    match t with
    | 0 => exact ⟨by decide, by decide, (by decide : 1 ≤ 1 ∧ 1 ≤ 2 ∧ 0 = (1 - 1) / 2), (by decide : 2 % 2 = 0 ∧ 1 ≤ 2 ∧ 120 = 120)⟩
    | 1 => exact ⟨by decide, by decide, ⟨rfl, rfl, rfl⟩, (by decide : 2 % 2 = 0 ∧ 1 ≤ 2 ∧ 120 = 120)⟩
    | 2 | 3 => exact ⟨by decide, by decide, trivial, rfl⟩
  arbiters := by
    intro p l
    unfold ArbiterRight
    revert p l
    decide
  done := fun r h => nomatch (show (none : Option Record) = some r from h)
  shared := by decide
  passed := by decide

theorem crewed_expect : ExpectRight crewed := by decide

theorem crewed_credits : CreditsRight crewed := by
  refine ⟨fun t => ?_, fun p i c h => ?_⟩
  · match t with
    | 0 | 1 | 2 | 3 => exact fun _ => rfl
  · have counters : ∀ p : PortNo, (crewed.port p).counters =
        if p = 0 then [⟨[⟨.account 0, 3, 40⟩], [⟨0, 0, 0, 3⟩, ⟨1, 0, 0, 3⟩, ⟨2, 3, 0, 0⟩]⟩] else [] := by decide
    rw [counters p] at h
    split at h
    · rename_i hp
      subst hp
      match i with
      | 0 =>
        obtain rfl := Option.some.inj h
        exact {
          single := by decide
          sound := fun r hr => by
            simp only [List.mem_cons, List.not_mem_nil, or_false] at hr
            rcases hr with rfl | rfl | rfl
            · exact ⟨.inr (.inl rfl), by decide, by decide, fun _ => by decide, fun h => nomatch h⟩
            · exact ⟨.inl rfl, by decide, by decide, fun _ => by decide, fun h => nomatch h⟩
            · exact ⟨.inr (.inr rfl), by decide, by decide, fun _ => by decide, fun h => nomatch h⟩
          complete := fun t ht _ => by
            match t with
            | 0 | 1 | 2 => exact by decide
            | 3 => exact absurd ht (by rintro (h | h | h) <;> exact nomatch h)
          own := by decide
          shared := by decide
          lots := by decide
          bound := by decide
          count := by decide }
      | _ + 1 => simp at h
    · simp at h

/-- Gates, counters and arbiters that agree do so whatever the monitors measure and the picture shows, while no cutover is past
HOLD. -/
theorem funding_transport {s u : State} (h : FundingRight s)
    (ports : ∀ p, u.port p = { s.port p with monitor := (u.port p).monitor }) (gates : u.gates = s.gates)
    (settings : u.settings = s.settings) (accounts : u.accounts = s.accounts) (router : u.router = s.router)
    (done : GatesDone u) : FundingRight u := by
  have st p : (u.port p).state = (s.port p).state := (congrArg Port.state (ports p) :)
  have pf p : (u.port p).profile = (s.port p).profile := (congrArg Port.profile (ports p) :)
  have ct p : (u.port p).counters = (s.port p).counters := (congrArg Port.counters (ports p) :)
  have ar p : (u.port p).arbiters = (s.port p).arbiters := (congrArg Port.arbiters (ports p) :)
  have gt t : u.gate t = s.gate t := by simp [State.gate, gates]
  have ba a : u.balance a = s.balance a := by simp [State.balance, accounts]
  have pr p : profileOf u p = profileOf s p := by simp [profileOf, pf]
  exact {
    counters := fun p => by simpa only [CountersRight, st, pf, ct] using h.counters p
    gates := fun t => by simpa only [GateRight, gt, st, ct, pr] using h.gates t
    arbiters := fun p l => by simpa only [ArbiterRight, ar, gt] using h.arbiters p l
    done := done
    shared := by simpa only [SharedRight, settings, ba, ct, gt] using h.shared
    passed := by simpa only [PassedRight, router, gt] using h.passed }

/-! ### Well-formedness: an ill-formed term for each check -/

/-- WRITE CABINET with 32 bytes: the length is not the command's (10 R151). -/
theorem test_short_record_is_ill_formed : (Instr.writeCabinet (List.replicate 32 0)).payloadFits = false := by decide

/-- WRITE ROUTES that counts one entry and carries none. -/
theorem test_wrong_count_is_ill_formed : (Instr.writeRoutes 1 1 []).wellFormed = false := by decide

/-- WRITE ROUTES whose payload the length byte cannot hold (10 R151). -/
theorem test_long_payload_is_ill_formed : (Instr.writeRoutes 1 60 (List.replicate 120 0)).payloadFits = false := by decide

/-- A FRAME_ERROR whose frame is good. -/
theorem test_good_frame_is_no_frame_error : (Instr.frameError [0x10, 0x00, 0x10]).wellFormed = false := by decide

/-- A FRAME_ERROR whose bytes begin no command (10 R150). -/
theorem test_fetch_bytes_are_no_frame_error : (Instr.frameError [0x80]).wellFormed = false := by decide

/-! ### Frames written out from 10 sections 10.1, 10.4 and 10.5 -/

theorem test_mode_frames : decodeFrame [0x10, 0x00, 0x10] = some .startRun ∧
    decodeFrame [0x11, 0x00, 0x11] = some .enterSetup ∧ decodeFrame [0x1F, 0x00, 0x1F] = some .restart := by decide

theorem test_board_frames : decodeFrame [0x40, 0x02, 0x05, 0x01, 0x46] = some (.select 5 1) ∧
    decodeFrame [0x41, 0x01, 0x03, 0x43] = some (.powerUp 3) ∧ decodeFrame [0x48, 0x01, 0x08, 0x41] = some (.readPort 8) := by
  decide

theorem test_settings_frames :
    decodeFrame [0x34, 0x04, 0x01, 0x01, 0x2E, 0x2D, 0x33] = some (.writeRoutes 1 1 [0x2E, 0x2D]) ∧
    decodeFrame [0x32, 0x01, 0x02, 0x31] = some (.clearProfile 2) := by decide

theorem test_money_frames : decodeFrame [0x59, 0x03, 0x02, 0x3A, 0x98, 0xFA] = some (.loadAccount 2 15000) ∧
    decodeFrame [0x68, 0x01, 0x00, 0x69] = some (.readAudits 0) := by decide

/-- The EMPTY frame (10 R154): header 06H, code 00H, length 0, check 06H. -/
theorem test_empty_frame : emptyResponse.bytes = [0x06, 0x00, 0x00, 0x06] := by decide

/-! ### Figures worked in spec/ -/

/-- 02: with P = 2 and k = 3 the bundle cost is 120 ticks and v = 40. -/
theorem test_bundle_figures : bundleCost board = 120 ∧ valuePerCredit board = 40 := by decide

/-- 02 R29: with s = 4 and k = 3, own 1 and own 0 need one and two bundles. -/
theorem test_bundles_needed : bundlesNeeded { board with perStart := 4 } 1 = 1 ∧
    bundlesNeeded { board with perStart := 4 } 0 = 2 := by decide

/-- 02 R36: {account 1, 1, 40}, {SERVICE, 3, 0}, {account 1, 2, 40} less two paid credits. -/
theorem test_oldest_lots_first :
    takeCredits (ofAccount 0) 2 [⟨.account 0, 1, 40⟩, ⟨.service, 3, 0⟩, ⟨.account 0, 2, 40⟩] =
      ([⟨.service, 3, 0⟩, ⟨.account 0, 1, 40⟩], 80) := by decide

/-- 05 R88: the worked rates. -/
theorem test_rates : lineRate 509 = 15717 ∧ frameRate 509 262 = 5998 ∧ lineRate 254 = 31496 ∧ frameRate 254 525 = 5999 ∧
    frameRate 333 410 = 5859 := by decide

/-- 08 R136: from 15 to 5 with R = 200 the step interval is 20; with R = 10 and d = 15 the level is set at once. -/
theorem test_ramp_intervals :
    (startRamp 5 { playing with cutover := { playing.cutover with level := 15 } }).cutover.ramp = some ⟨5, 20, 20⟩ ∧
    (startRamp 15 { playing with settings := { playing.settings with soundRamp := 10 } }).cutover.level = 15 := by decide

/-- 05 R79: with the estimate at 509, 127 units is horizontal and 128 vertical; with it absent, 38 and 216. -/
theorem test_pulse_kinds : isVertical { lockedMonitor with estimate := some 509 } 127 = false ∧
    isVertical { lockedMonitor with estimate := some 509 } 128 = true ∧
    isVertical { lockedMonitor with estimate := none } 38 = false ∧
    isVertical { lockedMonitor with estimate := none } 216 = true := by decide

/-- 02 R27: 80 ticks read as 80 ticks, 1 unit and 20 ticks. -/
theorem test_account_bytes : accountBytes 80 = [0, 80, 1, 20] := by decide

/-! ### One command each -/

/-- 02 R25: LOAD ACCOUNT of 300 ticks into an empty account 1. -/
theorem test_load_account : (after (.loadAccount 1 300) (asked .setup)).balance 0 = 300 ∧
    (after (.loadAccount 1 300) (asked .setup)).totalIn = 300 := by decide

/-- 06 R93: the press of the worked board charges 120 ticks and begins the first pulse. -/
theorem test_start_funds : (after (.debouncedChange (startOf 0)) (pressed 0 playing)).balance 0 = 120 ∧
    ((after (.debouncedChange (startOf 0)) (pressed 0 playing)).gate 0).phase = .held := by decide

/-- 06 R95: the second pulse completes the bundle: three credits of 40 ticks. -/
theorem test_bundle_completes :
    (counterAt (after (.endOfHeld 0) (sending .held 2)) ⟨0, 0, 0, 0⟩).lots = [⟨.account 0, 3, 40⟩] ∧
    ((after (.endOfHeld 0) (sending .held 2)).gate 0).inFlight = 0 := by decide

/-- 06 R96: an asserted lockout holds the next pulse. -/
theorem test_lockout_holds :
    ((after (.endOfGap 0)
      (modPort 0 (fun pt => { pt with
        lockoutIn := #v[true, false]
        profile := some { board with lockout := #v[some 0, none, none, none] } }) (sending .gap 1))).gate 0).phase =
      .lockoutHold := by decide

/-- 01 R14: the last OFF expiry of a meter leaves it IDLE. -/
theorem test_meter_drains :
    (after (.meterOffExpiry 0) (modMeter 0 (fun _ => ⟨1, .off, some 0, true⟩) State.reset)).meter 0 = ⟨0, .idle, none, false⟩ := by
  decide

/-- 03 R41: PORTS read as 2 gives 3 installed ports, and no BANDS input gives band L. -/
theorem test_straps : (after (.powerOnReset 2 0) State.reset).straps = ⟨3, ⟨true, false, false⟩⟩ ∧
    ((after (.powerOnReset 2 0) State.reset).port 3).state = .absent := by decide

/-- 11 R167: after a warm reset the queue holds RESTARTED alone. -/
theorem test_restarted_alone :
    (after .warmReset { playing with link := { playing.link with preparing := .restart } }).events.map EventRecord.kind =
      [.restarted] := by decide

/-- 04 R70: POWER DOWN of a PARKED port starts its discharge of 500 ms. -/
theorem test_power_down : ((after (.powerDown 8) (withBoard 7 .parked (asked .run))).port 7).dischargeTimer = some 500 := by
  decide

/-- The payload of the answer in preparation after a command. -/
def answerTo (c : Instr) (s : State) : List Byte :=
  match (after c s).link.preparing with
  | .response r => r.payload
  | .nothing | .restart => []

/-- 10 R157: the entries of 60 routes have no length of 120 or less, so the length test fails; those of 59 pass it. -/
theorem test_route_counts : Code.writeRoutes.takes ([1, 60] ++ List.replicate 120 0) = false ∧
    Code.writeRoutes.takes ([1, 59] ++ List.replicate 118 0) = true := by decide

/-- 03 R47, 10 R156: a menu band that is no band code is found in step 1, before the chord controls that are equal. -/
theorem test_band_code_before_chord :
    answerTo (.writeCabinet (((cabinetBytes (asked .setup).settings).set 22 21).set 21 21 |>.set 27 9)) (asked .setup) =
      [3, 27] := by decide

/-- 10 R150: a command's transaction shifts out 00H after its first byte, and bytes after FFH are ignored. -/
theorem test_shifted_out : (after .startRun (asked .setup)).link.dataOut = [0, 0] ∧
    (after (.frameError [0xFF, 1, 2]) (asked .setup)).link.dataOut = [0, 0] ∧
    (after (.frameError [0xFF, 1, 2]) (asked .setup)).link.ready = true ∧
    (after (.frameError [0xFF, 1, 2]) (asked .setup)).link.preparing = .nothing := by decide

/-- 10 R156: of a fetch that a warm reset cuts into, the copy is gone, and with the slot the power-on values stand. -/
theorem test_reset_in_a_fetch :
    (let l := (after .warmReset { playing with
        link := { openLink with transaction := .fetch, fetch := some ⟨emptyResponse, false, 0⟩, preparing := .restart } }).link
     l.transaction = .fetch ∧ l.fetch = none ∧ l.slot = none ∧ l.ready = true) := by decide

/-! ### Witnesses: frames and the selector port -/

/-- An expiry waits to be taken: the ON phase of meter 1 has run out. -/
def meterDueState : State := modMeter 0 (fun _ => ⟨1, .on, some 0, false⟩) State.reset

theorem witness_EmptyQueueRunsTheClock : (State.reset.pending = [] ∧ dues State.reset = []) ∧
    meterDueState.pending = [] ∧ dues meterDueState ≠ [] := by decide

/-- 00, "Time": what is due is the one timer at 0, and with every timer above 0 nothing is. -/
theorem test_dues : dues meterDueState = [.meterOnExpiry 0] ∧ dues (tick balanced) = [.resetPinAsserted] ∧
    dues { State.reset with router := { State.reset.router with timers := setSlot State.reset.router.timers 46 (some 1) } } = [] := by
  decide

theorem witness_NothingDueChangesNothing :
    let s := State.reset
    (∀ c, slot s.router.timers c ≠ some 0) ∧
    (∀ i, ¬((s.chute i).state = .timing ∧ (s.chute i).maxWidthTimer = some 0) ∧ (s.chute i).gapTimer ≠ some 0 ∧
      ¬((s.chute i).state = .jammed ∧ (s.chute i).jamClearTimer = some 0)) ∧
    (∀ m, ¬((s.meter m).phase = .on ∧ (s.meter m).timer = some 0) ∧
      ¬((s.meter m).phase = .off ∧ (s.meter m).timer = some 0)) ∧
    (∀ p, ¬((s.port p).state = .powering ∧ (s.port p).settleTimer = some 0) ∧
      ¬((s.port p).state = .booting ∧ (s.port p).bootTimer = some 0) ∧
      ¬((s.port p).state = .stopping ∧ (s.port p).dischargeTimer = some 0) ∧
      ¬((s.port p).monitor.state ≠ .stopped ∧ (s.port p).monitor.lastEdge = some 0) ∧
      (∀ m, ¬((s.port p).state = .live ∧ (slot (s.port p).meterIn m).timer = some 0)) ∧
      (s.port p).audits.secondDue = false) ∧
    (∀ t, (s.gate t).state = .idle ∧ (s.gate t).guardTimer ≠ some 0) ∧
    ¬(s.router.chord = .timing ∧ s.router.chordTimer = some 0) ∧ s.cutover.settleTimer ≠ some 0 ∧
    s.cutover.ramp = none ∧ s.resetPin.timer ≠ some 0 ∧ s.link.preparing = .nothing := by decide

theorem witness_FrameRoundTrip : (Instr.writeRoutes 8 47 (List.replicate 94 0x81)).wellFormed = true ∧
    (encodeFrame (.writeRoutes 8 47 (List.replicate 94 0x81))).isSome = true := by decide

theorem witness_DecodedFramesAreSpelled : decodeFrame [0x59, 0x03, 0x02, 0x3A, 0x98, 0xFA, 0x00] = some (.loadAccount 2 15000) := by
  decide

theorem witness_FrameTestsInOrder : (1 ≤ (0x01 : Byte).toNat ∧ (0x01 : Byte).toNat ≤ 0x7F) ∧
    (1 ≤ (0x7F : Byte).toNat ∧ (0x7F : Byte).toNat ≤ 0x7F) ∧ (List.replicate 121 (0 : Byte)).length ≤ 121 := by decide

theorem witness_CommandsAreTaken : (Instr.powerUp 8).wellFormed = true ∧ (Instr.powerUp 8).spell = some (.powerUp, [8]) ∧
    Takes (asked .setup) := by decide

/-- The part in SETUP with a transaction of another kind open. -/
def inTransaction (x : Transaction) : State := { State.reset with link := { powerOnLink with transaction := x } }

theorem witness_FrameErrorsAndLostFrames : (Takes (asked .run) ∧ judgeFrame [0x10, 0x79] = .badLength ∧
    judgeFrame [0x10] = .checkError ∧ judgeFrame [0x33, 0x00, 0x33] = .unknownCode) ∧
    (asked .run).link.transaction ≠ .fetch ∧ (0 : Byte).toNat = 0 ∧ 0x81 ≤ (0x81 : Byte).toNat ∧ 0x81 ≤ (0xFF : Byte).toNat ∧
    Instr.readStatus.spell = some (.readStatus, []) ∧ (1 ≤ (0x01 : Byte).toNat ∧ (0x7F : Byte).toNat ≤ 0x7F) ∧
    (inTransaction .dropped).link.transaction = .dropped ∧ (inTransaction .ignored).link.transaction = .ignored ∧
    ({ inTransaction .none with link := { powerOnLink with ready := false } }.link.transaction = .none ∧
      { inTransaction .none with link := { powerOnLink with ready := false } }.link.ready = false) := by decide

theorem witness_RefusedCommandsChangeNothing :
    (∃ t, (Instr.powerUp 9).spell.isSome = true ∧ Takes (asked .run) ∧ exec (.powerUp 9) (asked .run) = .next t ∧
      t.link.preparing = .response ⟨.invalid, false, 0x41, [3, 0]⟩) ∧
    ∃ t, Instr.startRun.spell.isSome = true ∧ Takes (asked .run) ∧ exec .startRun (asked .run) = .next t ∧
      t.link.preparing = .response ⟨.refused, false, 0x10, [2]⟩ :=
  ⟨⟨_, by decide, by decide, rfl, by decide⟩, ⟨_, by decide, by decide, rfl, by decide⟩⟩

/-- A response of one payload byte: five bytes on the wire. -/
def shortResponse : Response := ⟨.done, false, 0x41, [5]⟩

theorem witness_SelectorPortEvents :
    { asked .setup with link := { openLink with preparing := .response shortResponse } }.link.preparing =
      .response shortResponse ∧ Takes (asked .setup) := by decide

theorem witness_FetchReturnsTheResponse : (asked .setup).link.transaction ≠ .ignored ∧
    (asked .setup).link.transaction ≠ .fetch ∧ (asked .setup).link.slot = none ∧
    { openLink with slot := some shortResponse }.slot = some shortResponse ∧ 4 < shortResponse.bytes.length ∧
    shortResponse.bytes.length ≤ 5 := by decide

/-! ### Witnesses: resets and modes -/

theorem witness_PowerOnReset : (0 : BitVec 3) = 0 ∧ (1 : BitVec 3) ≠ 0 ∧ (7 : BitVec 3) ≠ 0 := by decide

theorem witness_WarmReset : (BoardsRight balanced ∧ FundingRight balanced) ∧ balanced.resetPin = ⟨true, false, some 0⟩ ∧
    balanced.link.preparing = .restart ∧ (balanced.port 0).state ≠ .absent ∧ balanced.link.transaction = .command :=
  ⟨⟨balanced_boards, balanced_funding⟩, by decide⟩

theorem witness_WarmReset_busy : BoardsRight crewed ∧ FundingRight crewed ∧ crewed.resetPin = ⟨true, false, some 0⟩ ∧
    crewed.link.preparing = .restart ∧ BalancesCapped (fundingsAborted 3 crewed) ∧ CountersBounded (fundingsAborted 3 crewed) :=
  ⟨crewed_boards, crewed_funding, by decide⟩

theorem witness_RawEdgesAndPinRelease :
    { State.reset with resetPin := ⟨false, true, some 0⟩ }.resetPin = ⟨false, true, some 0⟩ := by decide

theorem witness_StartRunAndModeRefusals : (Takes (asked .setup) ∧ (asked .setup).mode = .setup) ∧
    (Takes (asked .run) ∧ (asked .run).mode = .run) ∧ (0 : Byte).toNat ≤ 8 ∧ (8 : Byte).toNat ≤ 8 ∧ (1 : Byte).toNat ≤ 1 ∧
    1 ≤ (1 : Byte).toNat := by decide

theorem witness_EnterSetup : Takes balanced ∧ balanced.mode = .run ∧ FundingRight balanced ∧ (balanced.port 0).state = .live :=
  ⟨by decide, by decide, balanced_funding, by decide⟩

/-- ENTER SETUP with all four gates busy: the balances stay within the cap, and the refunds are 240 ticks. -/
theorem witness_EnterSetup_busy : Takes crewed ∧ crewed.mode = .run ∧ FundingRight crewed ∧ ExpectRight crewed ∧
    CreditsRight crewed ∧ BalancesCapped (fundingsAborted 3 crewed) ∧ CountersBounded (fundingsAborted 3 crewed) :=
  ⟨by decide, by decide, crewed_funding, crewed_expect, crewed_credits, by decide, by decide⟩

/-- 06 R102, 02 R22: an abort of all four gates refunds the two bundles in flight, counts the orphan pulses of gate 1 and of gate 2,
which began as the line was passed on, and posts four FUNDING ABORTED. -/
theorem test_all_gates_abort :
    let u := fundingsAborted 3 crewed
    u.balance 0 = 480 ∧ (u.port 0).audits.orphanPulses = 2 ∧ (u.port 0).audits.ticksRefunded = 240 ∧ u.events.length = 4 := by
  decide

/-! ### Witnesses: chutes and meters -/

/-- Chute 1 as given, at 1,000 ms. -/
def withChute (c : Chute) : State := { modChute 0 (fun _ => c) (asked .run) with timeStamp := 1000 }

/-- A pulse in measurement that began `w` ms ago. -/
def measuring (w : Word) : Chute :=
  { quietChute with
    held := true
    state := .timing
    leadingEdge := some (1000 - w)
    qualified := true
    maxWidthTimer := some 0 }

theorem witness_ChuteEdges :
    ((withChute quietChute).chute 0).state = .quiet ∧
    ((withChute { quietChute with state := .jammed }).chute 0).state = .jammed ∧
    ((withChute (measuring 19)).chute 0).state = .timing ∧ ((withChute (measuring 19)).chute 0).leadingEdge = some 981 ∧
    ((1000 : Word) - 981).toNat < (measuring 19).minWidth ∧ (measuring 151).maxWidth < ((1000 : Word) - 849).toNat ∧
    (measuring 151).leadingEdge = some 849 ∧
    ({ measuring 20 with qualified := false }).qualified = false ∧ ({ measuring 20 with gapFailed := true }).gapFailed = true := by
  decide

theorem witness_CoinAccepted :
    (∀ m ∈ [idleMeter, ⟨255, .on, some 3, false⟩, ⟨255, .off, some 3, true⟩],
      let s := modMeter 0 (fun _ => m) (withChute (measuring 20))
      (s.chute 0).state = .timing ∧ (s.chute 0).leadingEdge = some 980 ∧ (s.chute 0).qualified = true ∧
        (s.chute 0).gapFailed = false ∧ (s.chute 0).minWidth ≤ (s.timeStamp - 980).toNat ∧
        (s.timeStamp - 980).toNat ≤ (s.chute 0).maxWidth ∧ s.events.length < 31) ∧
    (let s := withChute (measuring 150)
     (s.chute 0).leadingEdge = some 850 ∧ (s.timeStamp - 850).toNat ≤ (s.chute 0).maxWidth) := by decide

theorem witness_ChuteExpiries :
    (((withChute (measuring 150)).chute 0).state = .timing ∧ ((withChute (measuring 150)).chute 0).maxWidthTimer = some 0) ∧
    ((withChute { quietChute with gapTimer := some 0 }).chute 0).gapTimer = some 0 ∧
    (let s := withChute { quietChute with state := .jammed, jamClearTimer := some 0 }
     (s.chute 0).state = .jammed ∧ (s.chute 0).jamClearTimer = some 0) := by decide

theorem witness_MeterPhases :
    ((meterDueState.meter 0).timer = some 0 ∧ (meterDueState.meter 0).phase = .on) ∧
    (let s := modMeter 0 (fun _ => ⟨2, .off, some 0, false⟩) State.reset
     (s.meter 0).timer = some 0 ∧ (s.meter 0).phase = .off ∧ 1 < (s.meter 0).pending) ∧
    (let s := modMeter 0 (fun _ => ⟨1, .off, some 0, false⟩) State.reset
     (s.meter 0).timer = some 0 ∧ (s.meter 0).phase = .off ∧ (s.meter 0).pending ≤ 1) := by decide

/-! ### Witnesses: money and settings -/

theorem witness_ReadAccounts : Takes (asked .run) ∧ SharedRight (asked .run) ∧
    (asked .run).settings.accountMode = .shared ∧ (3 : AccountNo) ≠ 0 := by decide

theorem witness_LoadAccount : Takes (asked .setup) ∧ (asked .setup).mode = .setup ∧
    (asked .setup).settings.accountMode = .shared ∧ (15000 : Half).toNat ≤ 15000 ∧ 15000 < (15001 : Half).toNat ∧
    (0 : Byte).toNat = 0 ∧ 4 < (5 : Byte).toNat ∧ (1 : AccountNo) ≠ 0 ∧ Takes (asked .run) ∧ (asked .run).mode = .run := by
  decide

theorem witness_ClearAccounts : Takes playing := by decide

theorem witness_BundleFigures : (1 ≤ ({ board with price := 1, k := 6 }).price ∧ ({ board with price := 1, k := 6 }).k ≤ 6) ∧
    (({ board with price := 60, k := 1 }).price ≤ 60 ∧ 1 ≤ ({ board with price := 60, k := 1 }).k) ∧
    ({ idleGate with kind := .ordinary }).kind = .ordinary ∧ Takes playing ∧ (playing.port 0).state ≠ .absent ∧
    (playing.port 0).profile = some board ∧ 1 ≤ board.price ∧ board.price ≤ 60 ∧ 1 ≤ board.k ∧ board.k ≤ 6 := by decide

/-- A port without a profile, an ABSENT one, and no port. -/
theorem witness_BundleFigures_without : (Takes (asked .run) ∧ ((asked .run).port 0).state ≠ .absent ∧
    ((asked .run).port 0).profile = none) ∧ (Takes (withBoard 7 .absent playing) ∧
    ((withBoard 7 .absent playing).port 7).state = .absent) ∧ (0 : Byte).toNat = 0 ∧ 8 < (9 : Byte).toNat := by decide

theorem witness_ReadCabinet : Takes (asked .setup) := by decide

/-- The part in SETUP, PER-STATION, with account 2 and account 4 at 15,000 ticks. -/
def perStationState : State :=
  { asked .setup with
    settings := { (asked .setup).settings with accountMode := .perStation }
    accounts := #v[0, 15000, 0, 15000] }

/-- The part in RUN with the exit chord enabled. -/
def chordState : State := { asked .run with settings := { (asked .run).settings with chordEnable := true } }

/-- The record of the settings after reset, with a byte changed. -/
def recordWith (o : Nat) (b : Byte) : List Byte := (cabinetBytes (asked .setup).settings).set o b

/-- The part in SETUP with band L alone strapped. -/
def lowBandState : State := { asked .setup with straps := ⟨8, ⟨true, false, false⟩⟩ }

/-- The chord's second control set to the first. -/
def equalChord : List Byte := recordWith 22 (byte (asked .setup).settings.chordFirst.val)

/-- A max width of 100 ms, and a min width of 100 ms. -/
def equalWidths : List Byte := ((recordWith 10 100).set 11 0).set 12 100

theorem witness_WriteCabinet_fields :
    (∀ o < 0, ¬ CabinetFieldBad (recordWith 0 2) o) ∧ CabinetFieldBad (recordWith 0 2) 0 ∧
    (∀ o < 4, ¬ CabinetFieldBad (recordWith 4 101) o) ∧ CabinetFieldBad (recordWith 4 101) 4 ∧
    (∀ o < 21, ¬ CabinetFieldBad (recordWith 21 47) o) ∧ CabinetFieldBad (recordWith 21 47) 21 ∧
    (∀ o < 27, ¬ CabinetFieldBad (recordWith 27 4) o) ∧ CabinetFieldBad (recordWith 27 4) 27 ∧
    (∀ o < 32, ¬ CabinetFieldBad (recordWith 32 2) o) ∧ CabinetFieldBad (recordWith 32 2) 32 := by
  refine ⟨?_, ?_, ?_, ?_, ?_, ?_, ?_, ?_, ?_, ?_⟩ <;> decide

theorem witness_WriteCabinet_sound : ∀ r ∈ [equalChord, recordWith 27 2, equalWidths, recordWith 31 4, recordWith 31 41,
    cabinetBytes (asked .setup).settings, cabinetBytes chordState.settings],
    r.length = 33 ∧ ∀ o < 33, ¬ CabinetFieldBad r o := by decide

theorem witness_WriteCabinet_steps : at8 equalChord 21 = at8 equalChord 22 ∧
    (at8 (recordWith 27 2) 21 ≠ at8 (recordWith 27 2) 22 ∧ ¬ RecordBandStrapped lowBandState (recordWith 27 2)) ∧
    (at8 equalWidths 21 ≠ at8 equalWidths 22 ∧ RecordBandStrapped lowBandState equalWidths ∧
      ¬ RecordWidthsRight equalWidths) := by decide

theorem witness_WriteCabinet_budget :
    let r := recordWith 31 4
    at8 r 21 ≠ at8 r 22 ∧ RecordBandStrapped (withBoard 7 .off (asked .setup)) r ∧ RecordWidthsRight r ∧
      ¬ RecordBudgetRight (withBoard 7 .off (asked .setup)) r :=
  ⟨by decide, by decide, by decide, fun h => absurd (h 7 board rfl) (by decide)⟩

theorem witness_WriteCabinet :
    (∀ r ∈ [cabinetBytes (asked .setup).settings, recordWith 31 41, cabinetBytes chordState.settings],
      at8 r 21 ≠ at8 r 22 ∧ RecordBandStrapped lowBandState r ∧ RecordWidthsRight r) ∧
    ((settingsOf (recordWith 31 41)).powerBudget ≠ (asked .run).settings.powerBudget ∧ (asked .run).mode = .run) ∧
    (perStationState.settings.accountMode = .perStation ∧ perStationState.mode = .setup ∧
      (settingsOf (cabinetBytes (asked .setup).settings)).accountMode = .shared) ∧
    (let st := settingsOf (cabinetBytes chordState.settings)
     chordState.mode = .run ∧ st.accountMode = chordState.settings.accountMode ∧
        st.powerBudget = chordState.settings.powerBudget ∧ chordState.settings.chordEnable = true ∧ st.chordEnable = true ∧
        chordState.settings.chordFirst = st.chordFirst ∧ chordState.settings.chordSecond = st.chordSecond) := by decide

/-- The write that enables the chord, in a state where both its controls are held and where neither is. -/
theorem witness_WriteCabinet_chord :
    (asked .run).settings.chordEnable = false ∧ (settingsOf (cabinetBytes chordState.settings)).chordEnable = true ∧
    (let s := { asked .run with router := { (asked .run).router with level := Vector.replicate 47 true } }
     s.settings.powerBudget = (settingsOf (cabinetBytes chordState.settings)).powerBudget ∧ s.settings.chordEnable = false ∧
        slot s.router.level (settingsOf (cabinetBytes chordState.settings)).chordFirst = true ∧
        slot s.router.level (settingsOf (cabinetBytes chordState.settings)).chordSecond = true) := by decide

/-- No profile is present, so any budget covers them. -/
theorem witness_WriteCabinet_budgets :
    RecordBudgetRight (asked .setup) (cabinetBytes (asked .setup).settings) ∧
    RecordBudgetRight (asked .run) (recordWith 31 41) ∧
    RecordBudgetRight perStationState (cabinetBytes (asked .setup).settings) ∧
    RecordBudgetRight chordState (cabinetBytes chordState.settings) := by
  have none_at : ∀ p : PortNo, ((asked .setup).port p).profile = none := by decide
  refine ⟨?_, ?_, ?_, ?_⟩ <;>
    exact fun p pr h => absurd ((none_at p).symm.trans (Option.mem_def.mp h)) (by simp)

theorem witness_RecordRoundTrips :
    (let st := defaultSettings .l
     (∀ i : ChuteNo, 1 ≤ slot st.chuteValue i ∧ slot st.chuteValue i ≤ 100) ∧ 5 ≤ st.minWidth ∧ st.minWidth ≤ 100 ∧
        20 ≤ st.maxWidth ∧ st.maxWidth ≤ 250 ∧ 10 ≤ st.minGap ∧ st.minGap ≤ 200 ∧ 1 ≤ st.softCeiling ∧
        st.softCeiling ≤ 250 ∧ 20 ≤ st.meterOn ∧ st.meterOn ≤ 200 ∧ 20 ≤ st.meterOff ∧ st.meterOff ≤ 200 ∧
        1000 ≤ st.chordHold ∧ st.chordHold ≤ 5000 ∧ st.monitorSettle ≤ 3000 ∧ st.menuTrim ≤ 15 ∧ st.soundRamp ≤ 500 ∧
        4 ≤ st.powerBudget ∧ st.powerBudget ≤ 80) ∧
    (let pr := board
     pr.positions ≤ 4 ∧ pr.c ≤ 9 ∧ pr.k ≤ 6 ∧ pr.price ≤ 60 ∧ pr.perStart ≤ 4 ∧ pr.creditMax ≤ 9 ∧ 20 ≤ pr.pulseWidth ∧
        pr.pulseWidth ≤ 200 ∧ 20 ≤ pr.pulseGap ∧ pr.pulseGap ≤ 500 ∧ 50 ≤ pr.pressWidth ∧ pr.pressWidth ≤ 500 ∧
        100 ≤ pr.confirmTimeout ∧ pr.confirmTimeout ≤ 5000 ∧ 100 ≤ pr.lockoutWait ∧ pr.lockoutWait ≤ 10000 ∧
        pr.playGuard ≤ 600 ∧ 50 ≤ pr.powerSettle ∧ pr.powerSettle ≤ 2000 ∧ 1 ≤ pr.bootTimeout ∧ pr.bootTimeout ≤ 60 ∧
        pr.load ≤ 20 ∧ pr.trim ≤ 15) := by decide

theorem witness_ProfileWrites :
    (Takes (asked .setup) ∧ (profileBytes board).length = 41 ∧ (0 : Byte).toNat = 0 ∧ 8 < (9 : Byte).toNat) ∧
    ∀ st ∈ [PortState.off, .absent, .stopping],
      ((withBoard 7 st (asked .setup)).port 7).state = st ∧ Takes (withBoard 7 st (asked .setup)) := by decide

/-- A property checked to fail at every number below a bound fails there. -/
theorem none_below {p : Nat → Prop} [DecidablePred p] {n : Nat} (h : ((List.range n).all fun o => !decide (p o)) = true) :
    ∀ o < n, ¬ p o := fun o ho => by simpa using List.all_eq_true.mp h o (List.mem_range.mpr ho)

theorem witness_ProfileWrites_sound : ∀ o < 42, ¬ ProfileFieldBad (asked .setup) (profileBytes board) o :=
  none_below (by decide)

/-- Positions 0 and 5, a sound trim before it that is no yes or no, a load of 0, k = 3 with a credit max of 2, a station map
entry above positions, and a lockout sense of a line that COMMON does not use. -/
theorem witness_ProfileWrites_fields :
    ProfileFieldBad (asked .setup) ((profileBytes board).set 0 0) 1 ∧
    ProfileFieldBad (asked .setup) ((profileBytes board).set 0 5) 1 ∧
    ProfileFieldBad (asked .setup) ((profileBytes board).set 39 2) 40 ∧
    ProfileFieldBad (asked .setup) ((profileBytes board).set 36 0) 37 ∧
    ProfileFieldBad (asked .setup) ((profileBytes board).set 10 2) 8 ∧
    ProfileFieldBad (asked .setup) ((profileBytes board).set 4 2) 5 ∧
    ProfileFieldBad (asked .setup) ((profileBytes board).set 27 1) 28 := by
  refine ⟨?_, ?_, ?_, ?_, ?_, ?_, ?_⟩ <;> decide

theorem witness_RouteCommands :
    (60 ≤ (60 : Byte).toNat ∧ ([1] : List Byte).length ≠ 2 * (1 : Byte).toNat ∧ (0 : Byte).toNat = 0 ∧ 8 < (9 : Byte).toNat) ∧
    ((59 : Byte).toNat < 60 ∧ (List.replicate 118 (0 : Byte)).length = 2 * (59 : Byte).toNat) ∧
    (∀ st ∈ [PortState.off, .absent, .stopping],
      Takes (withBoard 0 st (asked .setup)) ∧ ((withBoard 0 st (asked .setup)).port 0).state = st ∧
        ((withBoard 0 st (asked .setup)).port 0).profile ≠ none) ∧
    ((asked .setup).port 0).state = .off ∧ ((asked .setup).port 0).profile = none := by decide

/-- The port of those states, in its OFF state. -/
def offPort : Port := (withBoard 0 .off (asked .setup)).port 0

theorem witness_RouteCommands_sound : (∀ o < 122, ¬ RouteFieldBad offPort 2 [0x00, 0x80, 0x2E, 0x2C] o) ∧
    ∀ o < 122, ¬ RouteFieldBad offPort 0 [] o :=
  ⟨none_below (by decide), none_below (by decide)⟩

/-- A count of 48, a line that does not exist, a START line, a line of position 2, TEST without test pass, a line twice, and
a source that does not exist. -/
theorem witness_RouteCommands_fields :
    RouteFieldBad offPort 48 (List.replicate 96 0) 1 ∧ RouteFieldBad offPort 1 [47, 0x80] 2 ∧
    RouteFieldBad offPort 1 [10, 0x80] 2 ∧ RouteFieldBad offPort 1 [11, 0x80] 2 ∧ RouteFieldBad offPort 1 [45, 0x80] 2 ∧
    RouteFieldBad offPort 2 [0, 0x80, 0, 0x81] 4 ∧ RouteFieldBad offPort 1 [0, 0x82] 3 := by
  refine ⟨?_, ?_, ?_, ?_, ?_, ?_, ?_⟩ <;> decide

/-- Port 1 with one listed entry, for UP of position 1. -/
def routedPort : Port := { (playing.port 0) with routes := [⟨0, .alwaysHeld⟩] }

/-- Its lines: START; the listed one; one of the mapped position and one above positions; and SERVICE, TEST and TILT. -/
theorem witness_LinesRouted : ((asked .run).port 0).profile = none ∧ routedPort.profile = some board ∧ isStart 0 = false ∧
    routedPort.routes.find? (fun e => e.line == 0) = some ⟨0, .alwaysHeld⟩ ∧
    (∀ e ∈ routedPort.routes, e.line ≠ controlOf 0 9 ∧ e.line ≠ controlOf 1 0 ∧ e.line ≠ 44 ∧ e.line ≠ 45 ∧ e.line ≠ 46) ∧
    ((0 : Position).val < board.positions ∧ slot board.stationMap 0 = some 0) ∧ board.positions ≤ (1 : Position).val ∧
    slot { board with positions := 2 }.stationMap 1 = none := by decide

/-! ### Witnesses: board life and the monitors -/

/-- Ports 1 and 2 POWERING, port 8 in a state with the board's profile. -/
def busySequencer (st : PortState) : State := withBoard 7 st (withBoard 1 .powering (withBoard 0 .powering (asked .run)))

/-- Port 7 PARKED and port 8 OFF, each with the board's load of 5, under a budget of 9, and port 8 the pending selection or
not: without keep, port 7 makes room for port 8; with keep, nobody does. -/
def crowded (keep asked8 : Bool) : State :=
  let s := asked .run
  { s with
    settings := { s.settings with powerBudget := 9 }
    ports := setSlot (setSlot s.ports 6 { s.port 6 with
        state := .parked, profile := some { board with keep := keep }, check := false, monitor := lockedMonitor })
      7 { s.port 7 with state := .off, profile := some board, check := false }
    recency := [6]
    cutover := { s.cutover with pendingSel := if asked8 then some (.port 7) else none } }

theorem crowded_boards (k a : Bool) : BoardsRight (crowded k a) where
  absent := by revert k a; decide
  monitors := by revert k a; decide
  timers := by revert k a; decide
  queue := by revert k a; decide
  recency := by revert k a; decide
  load := by revert k a; decide
  setup := fun h => nomatch (show Mode.run = .setup from h)
  live := ⟨by revert k a; decide, fun p _ h => nomatch (show Crosspoint.menu = .port p from h)⟩
  cutover := fun r h => nomatch (show (none : Option Record) = some r from h)
  routed := fun p h => nomatch (show (none : Option PortNo) = some p from h)
  menuBand := by revert k a; decide

theorem witness_PowerUp_crowded :
    (∀ k a : Bool, Takes (crowded k a) ∧ (crowded k a).mode = .run ∧ ((crowded k a).port 7).profile = some board ∧
      ((crowded k a).port 7).state = .off ∧ (crowded k a).powerQueue = [] ∧ poweringCount (crowded k a) < 2) ∧
    (let s := crowded true false
     s.settings.powerBudget + loadFreed s (evictees s).length < runningLoad s + board.load ∧
        s.cutover.pendingSel ≠ some (.port 7)) ∧
    (let s := crowded true true
     s.settings.powerBudget + loadFreed s (evictees s).length < runningLoad s + board.load ∧
        s.cutover.pendingSel = some (.port 7)) ∧
    (let s := crowded false false
     s.settings.powerBudget < runningLoad s + board.load ∧
        runningLoad s + board.load ≤ s.settings.powerBudget + loadFreed s (evictees s).length) := by decide

theorem witness_PowerUp :
    (let s := withBoard 0 .off { asked .run with settings := { (asked .run).settings with powerBudget := 5 } }
     Takes s ∧ s.mode = .run ∧ (s.port 0).profile = some board ∧ (s.port 0).state = .off ∧ s.powerQueue = [] ∧
        poweringCount s < 2 ∧ runningLoad s + board.load ≤ s.settings.powerBudget) ∧
    (let s := busySequencer .off
     Takes s ∧ s.mode = .run ∧ (s.port 7).profile = some board ∧ (s.port 7).state = .off ∧ 2 ≤ poweringCount s) ∧
    ((busySequencer .stopping).port 7).state = .stopping ∧ ((busySequencer .booting).port 7).state = .booting ∧
    (playing.port 0).state = .live ∧ (playing.port 0).profile = some board ∧ playing.mode = .run := by decide

/-- A byte outside 1 to 8, an ABSENT port, one without a profile, and an OFF port 8 behind a queue. -/
theorem witness_PowerUp_refused :
    ((0 : Byte).toNat = 0 ∧ 8 < (9 : Byte).toNat ∧ Takes (asked .run) ∧ (asked .run).mode = .run) ∧
    ((withBoard 7 .absent (asked .run)).port 7).state = .absent ∧
    (((asked .run).port 7).state ≠ .absent ∧ ((asked .run).port 7).profile = none) ∧
    (let s := { withBoard 6 .queued (withBoard 7 .off (asked .run)) with powerQueue := [6] }
     Takes s ∧ s.mode = .run ∧ (s.port 7).profile = some board ∧ (s.port 7).state = .off ∧ s.powerQueue = [6] ∧
        poweringCount s < 2) := by decide

theorem witness_PowerDown :
    (∀ st ∈ [PortState.absent, .off, .stopping, .booting, .parked],
      Takes (busySequencer st) ∧ (busySequencer st).mode = .run ∧ isSelectionTarget (busySequencer st) 7 = false ∧
        ((busySequencer st).port 7).state = st) ∧
    (Takes playing ∧ playing.mode = .run ∧ isSelectionTarget playing 0 = false ∧ (playing.port 0).state = .live) ∧
    { busySequencer .queued with powerQueue := [7] }.powerQueue = [7] ∧ ((busySequencer .queued).port 7).state = .queued ∧
    ((busySequencer .off).port 0).state = .powering ∧ (busySequencer .off).powerQueue = [] ∧
    isSelectionTarget (busySequencer .off) 0 = false := by decide

/-- Port 8 PARKED with three paid credits and a service one. -/
def stocked : State :=
  modPort 7 (fun pt => { pt with counters := [⟨[⟨.account 0, 3, 40⟩, ⟨.service, 1, 0⟩], []⟩] }) (busySequencer .parked)

theorem witness_PowerDown_lots : (BalancesCapped stocked ∧ Takes stocked ∧ stocked.mode = .run ∧
    isSelectionTarget stocked 7 = false ∧ (stocked.port 7).state = .parked) ∧ CountersBounded stocked ∧
    (let s := { busySequencer .booting with cutover := { (busySequencer .booting).cutover with pendingSel := some (.port 7) } }
     Takes s ∧ s.mode = .run ∧ (s.port 7).state = .booting ∧ s.cutover.pendingSel = some (.port 7)) := by decide

/-- Port 8 in each state, the pending selection; and ports 7 and 8 in the queue, with port 1 POWERING. -/
theorem witness_PowerDown_pending :
    (∀ st ∈ [PortState.off, .stopping, .queued, .powering, .booting, .parked],
      let u := withBoard 7 st (withBoard 0 .powering (asked .run))
      let s := { u with cutover := { u.cutover with pendingSel := some (.port 7) } }
      Takes s ∧ s.mode = .run ∧ s.cutover.pendingSel = some (.port 7) ∧ (s.port 7).state = st ∧ (7 : PortNo) ∉ s.powerQueue ∧
        isTarget s 7 = false) ∧
    (let s := { withBoard 6 .queued (busySequencer .queued) with powerQueue := [7, 6] }
     Takes s ∧ s.mode = .run ∧ (s.port 7).state = .queued ∧ (s.port 6).state = .queued ∧ (s.port 0).state = .powering ∧
        (0 : PortNo) ∉ s.powerQueue ∧ s.powerQueue ≠ []) := by decide

/-- Port 1 with the board and a timer that has run out. -/
def expiring (st : PortState) : State :=
  modPort 0 (fun pt => { pt with settleTimer := some 0, bootTimer := some 0, dischargeTimer := some 0, restart := true })
    (withBoard 0 st (asked .run))

theorem witness_BoardExpiries :
    (let s := expiring .powering
     (s.port 0).state = .powering ∧ (s.port 0).settleTimer = some 0 ∧ (s.port 0).profile = some board ∧ s.powerQueue = []) ∧
    (let s := expiring .booting
     (s.port 0).state = .booting ∧ (s.port 0).bootTimer = some 0 ∧ (s.port 0).profile = some board ∧
        s.cutover.pendingSel ≠ some (.port 0)) ∧
    (let s := { expiring .booting with cutover := { (expiring .booting).cutover with pendingSel := some (.port 0) } }
     (s.port 0).state = .booting ∧ (s.port 0).bootTimer = some 0 ∧ s.cutover.pendingSel = some (.port 0)) ∧
    (let s := expiring .stopping
     (s.port 0).state = .stopping ∧ (s.port 0).dischargeTimer = some 0 ∧ (s.port 0).restart = true ∧
        (s.port 0).profile = some board ∧ s.powerQueue = [] ∧ poweringCount s < 2 ∧
        runningLoad s + board.load ≤ s.settings.powerBudget) ∧
    (let s := modPort 0 (fun pt => { pt with restart := false }) (expiring .stopping)
     (s.port 0).state = .stopping ∧ (s.port 0).dischargeTimer = some 0 ∧ (s.port 0).restart = false) := by decide

/-- A settle that ends with port 8 in the queue; and a discharge with restart-requested behind two POWERING ports, and where the
budget has no room and nobody is to be evicted. -/
theorem witness_BoardExpiries_queue :
    (let s := { withBoard 7 .queued (expiring .powering) with powerQueue := [7] }
     (s.port 0).state = .powering ∧ (s.port 0).settleTimer = some 0 ∧ (s.port 0).profile = some board ∧
        s.powerQueue = [7] ∧ (s.port 7).state = .queued) ∧
    (let s := withBoard 6 .powering (withBoard 7 .powering (expiring .stopping))
     (s.port 0).state = .stopping ∧ (s.port 0).dischargeTimer = some 0 ∧ (s.port 0).restart = true ∧ 2 ≤ poweringCount s) ∧
    (let s := { expiring .stopping with settings := { (expiring .stopping).settings with powerBudget := 4 } }
     (s.port 0).state = .stopping ∧ (s.port 0).dischargeTimer = some 0 ∧ (s.port 0).restart = true ∧ s.powerQueue = [] ∧
        poweringCount s < 2 ∧ s.recency.Nodup ∧
        s.settings.powerBudget + loadFreed s (evictees s).length < runningLoad s + loadOf (s.port 0)) := by decide

/-- 04 R62, R66: the slot that a settle frees serves the head of the queue. -/
theorem test_settle_serves_the_head :
    let u := after (.settleTimerExpiry 0) { withBoard 7 .queued (expiring .powering) with powerQueue := [7] }
    (u.port 0).state = .booting ∧ (u.port 7).state = .powering ∧ u.powerQueue = [] := by decide

/-- Port 1 BOOTING, its monitor searching as given. -/
def searching (m : Monitor) : State :=
  modPort 0 (fun pt => { pt with monitor := { m with state := .searching, lastEdge := some 0 } }) (withBoard 0 .booting (asked .run))

/-- Port 1 PARKED with a monitor as given. -/
def watching (m : Monitor) : Port := (modPort 0 (fun pt => { pt with monitor := m }) (withBoard 0 .parked (asked .run))).port 0

theorem witness_SyncEdges :
    (let m := ((searching (stoppedMonitor true)).port 0).monitor
     m.state ≠ .stopped ∧ m.pulse = none) ∧
    ((State.reset).port 0).monitor.state = .stopped ∧
    (∀ h ∈ [998, 999], ∀ st ∈ [MonitorState.searching, .locked],
      let m := (watching { stoppedMonitor true with state := st, pulse := some 1000, h := h, inconsistency := 6 }).monitor
      m.state = st ∧ st ≠ .stopped ∧ m.pulse = some 1000 ∧ m.h = h ∧ m.estimate = none ∧ ((1128 : Word) - 1000).toNat ≤ 128 ∧
        m.inconsistency + 1 < 8) ∧
    (let m := (watching { stoppedMonitor true with state := .locked, pulse := some 1000, estimate := some 512, h := 99 }).monitor
     m.pulse = some 1000 ∧ m.estimate = some 512 ∧ 4 * ((1128 : Word) - 1000).toNat ≤ 512 ∧
        512 < 4 * ((1129 : Word) - 1000).toNat ∧ m.h < 100) := by decide

/-- A monitor one frame short of its lock, the closing pulse in progress. -/
def aboutToLock : Monitor :=
  { stoppedMonitor true with
    pulse := some 9000
    h := 262
    consistency := 3
    previous := some ⟨512, 263, some .l, true⟩
    frame := some ⟨some 100, some 8260⟩ }

theorem witness_LockParksTheBoard :
    let s := searching aboutToLock
    let m := (s.port 0).monitor
    m.state = .searching ∧ m.pulse = some 9000 ∧ m.consistency = 3 ∧ m.previous = some ⟨512, 263, some .l, true⟩ ∧
      m.frame = some ⟨some 100, some 8260⟩ ∧ m.estimate = none ∧ 128 < ((9129 : Word) - 9000).toNat ∧ 200 ≤ m.h ∧ m.h ≤ 700 ∧
      ((8260 : Word) - 100).toNat / 16 = 510 ∧ bandOf 510 = some .l ∧ 510 ≤ 512 + 2 ∧ 512 ≤ 510 + 2 ∧ m.h ≤ 263 + 1 ∧
      263 ≤ m.h + 1 ∧ (s.port 0).state = .booting ∧ isSelectionTarget s 0 = false := by decide

/-- Port 1 about to lock and the pending selection, with a cutover in flight or none, a service pending and the blank asserted. -/
def asking (r : Option Record) : State :=
  let s := searching aboutToLock
  { s with
    servicePending := true
    cutover := { s.cutover with record := r, pendingSel := some (.port 0), blank := true, settleTimer := some 3 } }

/-- The lock of the pending selection: with its band not strapped, with the gates busy, and with the gates idle. -/
theorem witness_LockParksTheBoard_pending :
    (∀ s ∈ [asking none, { asking none with servicePending := false },
        { asking none with straps := ⟨8, ⟨false, false, true⟩⟩ }],
      s.cutover.pendingSel = some (.port 0) ∧ s.cutover.record = none ∧ isTarget s 0 = false ∧ (s.port 0).state = .booting ∧
        (s.port 0).monitor = { aboutToLock with state := .searching, lastEdge := some 0 } ∧ s.cutover.level < 15 ∧
        0 < s.settings.soundRamp / (15 - s.cutover.level)) ∧
    ({ asking none with straps := ⟨8, ⟨false, false, true⟩⟩ }).straps.bands.has .l = false ∧
    (asking none).straps.bands.has .l = true ∧ gatesQuiet (asking none) = false ∧
    gatesQuiet { asking none with servicePending := false } = true := by decide

/-- And while a cutover to port 8 waits, in each phase. -/
theorem witness_LockParksTheBoard_waiting (ph : CutoverPhase) :
    (asking (some ⟨ph, .menu, .port 7⟩)).cutover.pendingSel = some (.port 0) ∧
    isTarget (asking (some ⟨ph, .menu, .port 7⟩)) 0 = false ∧
    CutoverWaits (asking (some ⟨ph, .menu, .port 7⟩)) ⟨ph, .menu, .port 7⟩ := by
  refine ⟨rfl, rfl, ?_⟩
  cases ph
  · exact (by decide : gatesQuiet (asking none) = false)
  · exact (by decide : (asking none).cutover.level ≠ 15)
  · exact (by decide : (asking none).cutover.settleTimer ≠ none)
  · exact (by decide : Crosspoint.port 7 ≠ .menu)
  · exact .inl rfl

/-- 04 R67, 08 R129: the lock of the pending selection starts its cutover in the same event. -/
theorem test_lock_starts_the_cutover :
    let u := after (.syncRisingEdge 0 9129) { asking none with servicePending := false }
    (u.port 0).state = .parked ∧ u.cutover.pendingSel = none ∧ u.cutover.record = some ⟨.mute, .menu, .port 0⟩ := by decide

/-- A LOCKED monitor of band L at a frame start, its previous frame of 512 units and 262 lines, and the frame that closes of
510 units and the lines given. -/
def closing (h bad : Nat) : Monitor :=
  { lockedMonitor with
    pulse := some 9000
    h := h
    previous := some ⟨512, 262, some .l, true⟩
    frame := some ⟨some 100, some 8260⟩
    inconsistency := bad }

/-- That frame closes good at 261 to 263 lines, and bad at 264. -/
theorem witness_LockParksTheBoard_frames :
    (∀ h ∈ [100, 261, 263, 264],
      let m := (watching (closing h 6)).monitor
      m.state = .locked ∧ m.pulse = some 9000 ∧ m.frame = some ⟨some 100, some 8260⟩ ∧ m.estimate = some 510 ∧
        510 < 4 * ((9128 : Word) - 9000).toNat ∧ 100 ≤ m.h ∧ m.inconsistency + 1 < 8) ∧
    GoodFrame (closing 261 6) 510 261 ∧ GoodFrame (closing 263 6) 510 263 ∧ ¬ GoodFrame (closing 264 6) 510 264 := by
  refine ⟨by decide, ?_, ?_, ?_⟩
  · exact ⟨by decide, by decide, by decide, by decide, _, rfl, by decide⟩
  · exact ⟨by decide, by decide, by decide, by decide, _, rfl, by decide⟩
  · rintro ⟨-, -, -, -, prev, h, -, -, -, -, hf, -⟩
    obtain rfl : ⟨512, 262, some .l, true⟩ = prev := Option.some.inj h
    exact absurd hf (by decide)

/-- Port 1 in a state with a monitor, and a cutover in flight or none. -/
def losing (st : PortState) (m : Monitor) (r : Option Record) : State :=
  let s := modPort 0 (fun pt => { pt with monitor := m }) (withBoard 0 st (asked .run))
  { s with cutover := { s.cutover with record := r, live := if st = .live then .port 0 else .menu } }

/-- Each way of a loss: the last-edge timer, the eighth bad frame, and the thousandth pulse without a frame start. -/
theorem witness_LossComes (st : PortState) (r : Option Record) :
    LossComes 0 (losing st { lockedMonitor with lastEdge := some 0 } r) (.lastEdgeTimerExpiry 0) ∧
    LossComes 0 (losing st (closing 264 7) r) (.syncRisingEdge 0 9128) ∧
    LossComes 0 (losing st (closing 999 7) r) (.syncRisingEdge 0 9127) := by
  refine ⟨⟨?_, .inl ⟨rfl, ?_⟩⟩, ⟨?_, .inr ⟨9000, 9128, rfl, ?_, ?_, .inl ⟨?_, ?_, 100, 8260, ?_, ?_⟩⟩⟩,
    ⟨?_, .inr ⟨9000, 9127, rfl, ?_, ?_, .inr ⟨?_, ?_⟩⟩⟩⟩
  all_goals first | rfl | skip
  · change 100 ≤ (closing 264 7).h; decide
  · exact witness_LockParksTheBoard_frames.2.2.2

/-- Port 1 LIVE and about to be lost, all its gates busy or all IDLE, port 8 PARKED in band L, and a cutover controller. -/
def fleeing (busy : Bool) (c : Cutover) : State :=
  let s := if busy then crewed else balanced
  { modPort 7 (fun pt => { pt with monitor := lockedMonitor }) (modPort 0 (fun pt => { pt with monitor := closing 264 7 }) s) with
    cutover := c }

theorem fleeing_funding (busy : Bool) (c : Cutover)
    (h : ∀ r, c.record = some r → r.phase = .hold ∨ busy = false) : FundingRight (fleeing busy c) := by
  refine funding_transport (s := if busy then crewed else balanced) (by cases busy; exacts [balanced_funding, crewed_funding])
    (fun p => ?_) (by cases busy <;> rfl) (by cases busy <;> rfl) (by cases busy <;> rfl) (by cases busy <;> rfl) ?_
  · cases busy <;> match p with
      | 0 | 1 | 2 | 3 | 4 | 5 | 6 | 7 => rfl
  · intro r hr hp
    rcases h r hr with h' | rfl
    · exact absurd h' hp
    · rfl

theorem witness_LossComes_live (busy : Bool) (c : Cutover) : LossComes 0 (fleeing busy c) (.syncRisingEdge 0 9128) := by
  have m : ((fleeing busy c).port 0).monitor = closing 264 7 := by cases busy <;> rfl
  refine ⟨?_, .inr ⟨9000, 9128, rfl, ?_, ?_, .inl ⟨?_, ?_, 100, 8260, ?_, ?_⟩⟩⟩ <;> rw [m]
  · decide
  · decide
  · decide
  · decide
  · decide
  · decide
  · exact witness_LockParksTheBoard_frames.2.2.2

/-- A state with band H on the band lines, and one with the monitor settle under way. -/
def elsewhere (s : State) : State := { s with cutover := { s.cutover with band := .h } }
def settling (s : State) : State := { s with cutover := { s.cutover with settleTimer := some 3 } }

theorem witness_LastEdgeExpiry :
    (let s := searching (stoppedMonitor true)
     (s.port 0).monitor.lastEdge = some 0 ∧ (s.port 0).monitor.state = .searching) ∧
    (let s := losing .parked (closing 264 7) none
     (s.port 0).state = .parked ∧ s.cutover.pendingSel ≠ some (.port 0) ∧ isTarget s 0 = false) ∧
    (let s := { losing .parked (closing 264 7) (some ⟨.hold, .menu, .port 0⟩) with servicePending := true }
     (s.port 0).state = .parked ∧ s.cutover.record = some ⟨.hold, .menu, .port 0⟩ ∧ gatesQuiet s = false) ∧
    (∀ ph ∈ [CutoverPhase.mute, .band, .align],
      let s := elsewhere (losing .parked (closing 264 7) (some ⟨ph, .menu, .port 0⟩))
      (s.port 0).state = .parked ∧ s.cutover.record = some ⟨ph, .menu, .port 0⟩ ∧
        s.settings.menuBand ≠ s.cutover.band ∧ s.settings.monitorSettle ≠ 0) ∧
    (∀ ph ∈ [CutoverPhase.mute, .band, .align],
      let s := settling (losing .parked (closing 264 7) (some ⟨ph, .menu, .port 0⟩))
      (s.port 0).state = .parked ∧ s.cutover.record = some ⟨ph, .menu, .port 0⟩ ∧
        s.settings.menuBand = s.cutover.band ∧ s.cutover.settleTimer ≠ none) := by decide

/-- The pending selection lost in PARKED; and PARKED, the target of a cutover in each phase before SHOW, with neither a move of the
band lines nor a settle to wait for. -/
theorem witness_LastEdgeExpiry_parked :
    (let s := losing .parked (closing 264 7) none
     let u := { s with cutover := { s.cutover with pendingSel := some (.port 0) } }
     (u.port 0).state = .parked ∧ u.cutover.pendingSel = some (.port 0) ∧ isTarget u 0 = false) ∧
    (∀ ph ∈ [CutoverPhase.mute, .band, .align],
      let s := losing .parked (closing 264 7) (some ⟨ph, .menu, .port 0⟩)
      (s.port 0).state = .parked ∧ isTarget s 0 = true ∧ s.settings.menuBand = s.cutover.band ∧
        s.cutover.settleTimer = none ∧ s.cutover.pendingSel = none) := by decide

/-- Port 1 PARKED and the target of a cutover, in each phase before SHOW: in HOLD with a service pending; and from MUTE on, with the
band lines elsewhere, with the settle under way, and with neither. -/
theorem witness_PowerDown_target :
    (let s := { losing .parked lockedMonitor (some ⟨.hold, .menu, .port 0⟩) with servicePending := true }
     Takes s ∧ s.mode = .run ∧ (s.port 0).state = .parked ∧ isTarget s 0 = true ∧ gatesQuiet s = false) ∧
    (∀ ph ∈ [CutoverPhase.mute, .band, .align],
      let s := losing .parked lockedMonitor (some ⟨ph, .menu, .port 0⟩)
      (∀ u ∈ [s, elsewhere s, settling s], Takes u ∧ u.mode = .run ∧ (u.port 0).state = .parked ∧ isTarget u 0 = true ∧
        u.cutover.record = some ⟨ph, .menu, .port 0⟩ ∧ u.cutover.pendingSel = none) ∧
      s.settings.menuBand = s.cutover.band ∧ s.cutover.settleTimer = none ∧ (settling s).cutover.settleTimer ≠ none ∧
      (elsewhere s).settings.menuBand ≠ (elsewhere s).cutover.band ∧ (elsewhere s).settings.monitorSettle ≠ 0) := by decide

/-- The picture of a LIVE port 1: a record, and a settle under way or not, in band L, or in another band with nothing to wait for
before the lines move. -/
def watched (r : Option Record) (settle : Timer) (b : Band) : Cutover :=
  { balanced.cutover with record := r, settleTimer := settle, band := b }

/-- The loss of the live board with all four gates busy: with no cutover in flight, and in HOLD to MENU and to port 8; with the
gates idle: with none, in SHOW of this board, in MUTE to MENU and to port 8, in BAND to each, and in ALIGN. -/
theorem witness_LastEdgeExpiry_live :
    (∀ r ∈ [none, some ⟨.hold, .port 0, .menu⟩, some ⟨.hold, .port 0, .port 7⟩], ∀ settle ∈ [none, some 3],
      ∀ b ∈ [Band.l, .h],
        FundingRight (fleeing true (watched r settle b)) ∧ ((fleeing true (watched r settle b)).port 0).state = .live ∧
          (fleeing true (watched r settle b)).cutover.live = .port 0) ∧
    (∀ r ∈ [none, some ⟨.shown, .menu, .port 0⟩, some ⟨.mute, .port 0, .menu⟩, some ⟨.mute, .port 0, .port 7⟩,
        some ⟨.band, .port 0, .menu⟩, some ⟨.band, .port 0, .port 7⟩, some ⟨.align, .port 0, .port 7⟩],
      ∀ settle ∈ [none, some 3], ∀ b ∈ [Band.l, .h],
        FundingRight (fleeing false (watched r settle b)) ∧ ((fleeing false (watched r settle b)).port 0).state = .live ∧
          (fleeing false (watched r settle b)).cutover.live = .port 0) ∧
    (∀ busy : Bool,
      let s := fleeing busy (watched none none .l)
      s.cutover.pendingSel ≠ some .menu ∧ s.straps.bands.has s.settings.menuBand = true ∧ (7 : PortNo) ≠ 0 ∧
        (s.port 7).monitor.frozen = some .l ∧ s.settings.menuBand = .l ∧ s.settings.monitorSettle ≠ 0) := by
  refine ⟨fun r hr settle _ b _ => ⟨fleeing_funding true _ fun r' h => .inl ?_, rfl, rfl⟩,
    fun r _ settle _ b _ => ⟨fleeing_funding false _ fun r' h => .inr rfl, rfl, rfl⟩, by decide⟩
  obtain rfl : r = some r' := h
  simp only [List.mem_cons, List.not_mem_nil, or_false] at hr
  rcases hr with hr | hr | hr <;> cases hr <;> rfl

/-! ### Witnesses: the start gates -/

/-- The worked board with three credits of account 1 on its counter. -/
def credited : State := modPort 0 (fun pt => { pt with counters := [⟨[⟨.account 0, 3, 40⟩], []⟩] }) playing

/-- Gate 1 under its guard, and a cutover to MENU waiting in HOLD. -/
def guarded (s : State) : State := modGate 0 (fun g => { g with guardTimer := some 5 }) s
def inCutover (s : State) : State := { s with cutover := { s.cutover with record := some ⟨.hold, .port 0, .menu⟩ } }

theorem witness_StartOnOwnCredits :
    let s := pressed 0 credited
    let pl := placeOf board 0 0
    PressDue s (startOf 0) ∧ livePort s = some 0 ∧
      (s.port 0).profile = some board ∧ s.cutover.record = none ∧ positionOf board 0 = some 0 ∧ (s.gate 0).state = .idle ∧
      (s.gate 0).guardTimer = none ∧ pl.counter < (s.port 0).counters.length ∧
      board.perStart ≤ ownCredits s (counterAt s pl) 0 ∧ (∀ r ∈ (counterAt s pl).claims, r.station ≠ 0) ∧
      s.events.length < 32 ∧ (s.meter 1).pending < 255 := by decide

/-- A press with no port LIVE; of station 2, which is not mapped; in a cutover; on a busy gate; and under a guard. -/
theorem witness_StartOnOwnCredits_ignored :
    (PressDue (pressed 0 (asked .run)) (startOf 0) ∧ livePort (pressed 0 (asked .run)) = none) ∧
    (∀ s ∈ [pressed 1 playing, pressed 0 (guarded playing), pressed 0 (sending .gap 1), pressed 0 (inCutover playing)],
      livePort s = some 0 ∧ (s.port 0).profile = some board) ∧
    PressDue (pressed 1 playing) (startOf 1) ∧ positionOf board 1 = none ∧
    (PressDue (pressed 0 (sending .gap 1)) (startOf 0) ∧ ((pressed 0 (sending .gap 1)).gate 0).state ≠ .idle) ∧
    (PressDue (pressed 0 (inCutover playing)) (startOf 0) ∧ (pressed 0 (inCutover playing)).cutover.record ≠ none) ∧
    (let s := pressed 0 (guarded playing)
     PressDue s (startOf 0) ∧ s.cutover.record = none ∧ positionOf board 0 = some 0 ∧ (s.gate 0).state = .idle ∧
        (s.gate 0).guardTimer ≠ none) := by decide

theorem witness_StartFunds :
    let s := pressed 0 { playing with accounts := #v[120, 0, 0, 0] }
    let pl := placeOf board 0 0
    let c := counterAt s pl
    let own := ownCredits s c 0
    let n := (board.perStart - own + board.k - 1) / board.k
    PressDue s (startOf 0) ∧ livePort s = some 0 ∧
      (s.port 0).profile = some board ∧ s.cutover.record = none ∧ positionOf board 0 = some 0 ∧ (s.gate 0).state = .idle ∧
      (s.gate 0).guardTimer = none ∧ own < board.perStart ∧ committed c + n * board.k ≤ board.creditMax ∧
      board.freePlay = false ∧ n * (board.price * 60) = 120 ∧ 120 ≤ s.balance (accountOf s 0) ∧
      (slot (s.port 0).arbiters pl.line).holder = none ∧ slot board.lockout pl.line = none := by decide

/-- A press with 119 ticks where 120 are asked for, and one on a board that holds 9 credits of other accounts already. -/
theorem witness_StartFunds_refused :
    (let s := pressed 0 { playing with accounts := #v[119, 0, 0, 0] }
     let c := counterAt s (placeOf board 0 0)
     let n := (board.perStart - ownCredits s c 0 + board.k - 1) / board.k
     ownCredits s c 0 < board.perStart ∧ committed c + n * board.k ≤ board.creditMax ∧ board.freePlay = false ∧
        s.balance (accountOf s 0) < n * (board.price * 60)) ∧
    (let s := pressed 0 (modPort 0 (fun pt => { pt with counters := [⟨[⟨.account 1, 9, 40⟩], []⟩] }) playing)
     let c := counterAt s (placeOf board 0 0)
     let n := (board.perStart - ownCredits s c 0 + board.k - 1) / board.k
     ownCredits s c 0 < board.perStart ∧ board.creditMax < committed c + n * board.k ∧
        PressDue s (startOf 0) ∧ livePort s = some 0 ∧ (s.port 0).profile = some board ∧ s.cutover.record = none ∧
        positionOf board 0 = some 0 ∧ (s.gate 0).state = .idle ∧ (s.gate 0).guardTimer = none) := by decide

theorem witness_EndOfHeld :
    (∀ k ∈ [1, 2],
      let s := sending .held k
      let g := s.gate 0
      g.state = .pulsing ∧ g.phase = .held ∧ g.phaseTimer = some 0 ∧ g.place = some ⟨0, 0, 0, 0⟩ ∧
        (s.port 0).profile = some board ∧ g.kind = .ordinary ∧ board.freePlay = false ∧ 0 < (s.port 0).counters.length) ∧
    ((sending .held 1).gate 0).begun % board.c ≠ 0 ∧ ((sending .held 2).gate 0).begun % board.c = 0 := by decide

/-- The last pulse of a bundle of free play, and of a service credit. -/
theorem witness_EndOfHeld_free :
    (let s := modPort 0 (fun pt => { pt with profile := some { board with freePlay := true } }) (sending .held 2)
     let g := s.gate 0
     g.state = .pulsing ∧ g.phase = .held ∧ g.phaseTimer = some 0 ∧ g.place = some ⟨0, 0, 0, 0⟩ ∧
        (s.port 0).profile = some { board with freePlay := true } ∧ g.begun % board.c = 0 ∧ g.kind = .ordinary ∧
        0 < (s.port 0).counters.length) ∧
    (let s := modGate 0 (fun g => { g with kind := .service, paying := none, inFlight := 0 }) (sending .held 2)
     let g := s.gate 0
     g.state = .pulsing ∧ g.phase = .held ∧ g.phaseTimer = some 0 ∧ g.place = some ⟨0, 0, 0, 0⟩ ∧
        (s.port 0).profile = some board ∧ g.begun % board.c = 0 ∧ g.kind = .service) := by decide

/-- 02 R34: a bundle's lot joins the newest lot of its source and value, and any other is appended. -/
theorem test_lots_join :
    (counterAt (after (.endOfHeld 0) (modPort 0 (fun pt => { pt with counters := [⟨[⟨.account 0, 1, 40⟩], []⟩] })
      (sending .held 2))) ⟨0, 0, 0, 0⟩).lots = [⟨.account 0, 4, 40⟩] ∧
    (counterAt (after (.endOfHeld 0) (modPort 0 (fun pt => { pt with counters := [⟨[⟨.account 0, 1, 30⟩], []⟩] })
      (sending .held 2))) ⟨0, 0, 0, 0⟩).lots = [⟨.account 0, 1, 30⟩, ⟨.account 0, 3, 40⟩] := by decide

/-- The worked board with a lockout on its coin line, asserted. -/
def lockedOut (s : State) : State :=
  modPort 0 (fun pt => { pt with
    lockoutIn := #v[true, false]
    profile := some { board with lockout := #v[some 0, none, none, none] } }) s

/-- The worked board with free play, and with its lockout asserted; and a press with its coin line held by gate 2. -/
theorem witness_StartFunds_forms :
    (∀ pr ∈ [{ board with freePlay := true }, { board with lockout := #v[some 0, none, none, none] }],
      let s := pressed 0 (modPort 0 (fun pt => { pt with profile := some pr, lockoutIn := #v[true, false] }) playing)
      let c := counterAt s (placeOf pr 0 0)
      let n := (pr.perStart - ownCredits s c 0 + pr.k - 1) / pr.k
      PressDue s (startOf 0) ∧ livePort s = some 0 ∧ (s.port 0).profile = some pr ∧ s.cutover.record = none ∧
        positionOf pr 0 = some 0 ∧ (s.gate 0).state = .idle ∧ (s.gate 0).guardTimer = none ∧
        ownCredits s c 0 < pr.perStart ∧ committed c + n * pr.k ≤ pr.creditMax ∧
        n * (pr.price * 60) ≤ s.balance (accountOf s 0) ∧ (slot (s.port 0).arbiters 0).holder = none) ∧
    ({ board with freePlay := true }).freePlay = true ∧
    lineLockedOut ((lockedOut playing).port 0) { board with lockout := #v[some 0, none, none, none] } 0 = true ∧
    (let s := pressed 0 (modPort 0 (fun pt => { pt with arbiters := setSlot pt.arbiters 0 ⟨some 1, [2]⟩ }) playing)
     let c := counterAt s (placeOf board 0 0)
     PressDue s (startOf 0) ∧ livePort s = some 0 ∧ (s.port 0).profile = some board ∧ (s.gate 0).state = .idle ∧
        (s.gate 0).guardTimer = none ∧ ownCredits s c 0 < board.perStart ∧
        slot (s.port 0).arbiters (placeOf board 0 0).line = ⟨some 1, [2]⟩) := by decide

theorem witness_EndOfGap :
    (let g := (sending .gap 1).gate 0
     g.state = .pulsing ∧ g.phase = .gap ∧ g.phaseTimer = some 0 ∧ g.place = some ⟨0, 0, 0, 0⟩ ∧
        ((sending .gap 1).port 0).profile = some board ∧ g.begun < g.planned ∧ slot board.lockout 0 = none) ∧
    (let s := lockedOut (sending .gap 1)
     (s.gate 0).state = .pulsing ∧ (s.gate 0).phase = .gap ∧ (s.gate 0).phaseTimer = some 0 ∧
        (s.gate 0).place = some ⟨0, 0, 0, 0⟩ ∧ (s.gate 0).begun < (s.gate 0).planned ∧
        (s.port 0).profile = some { board with lockout := #v[some 0, none, none, none] } ∧
        slot ({ board with lockout := #v[some 0, none, none, none] }).lockout 0 = some 0 ∧
        slot (s.port 0).lockoutIn 0 = true) ∧
    (let s := sending .gap 2
     let g := s.gate 0
     g.state = .pulsing ∧ g.phase = .gap ∧ g.phaseTimer = some 0 ∧ g.place = some ⟨0, 0, 0, 0⟩ ∧
        (s.port 0).profile = some board ∧ g.planned ≤ g.begun ∧ g.entry ≠ none ∧ g.early = false ∧
        (slot (s.port 0).arbiters 0).waiting = []) := by decide

/-- Gate 1 at the end of its train, ordinary or for a service credit, with an entry or none, confirmed already or not, its line
wanted by gate 2 or not. -/
def trainSent (kind : FundingKind) (entry : Option OutputNo) (early wanted : Bool) : State :=
  let s := modGate 0 (fun g => { g with kind := kind, entry := entry, early := early }) (sending .gap 2)
  let u := modPort 0 (fun pt => { pt with arbiters := setSlot pt.arbiters 0 ⟨some 0, if wanted then [1] else []⟩ }) s
  if wanted then modGate 1 (fun g => { g with state := .waiting, kind := .ordinary, place := some ⟨0, 1, 0, 0⟩ }) u else u

theorem witness_EndOfGap_sent :
    ∀ kind ∈ [FundingKind.ordinary, .service], ∀ entry ∈ [(none : Option OutputNo), some 0], ∀ early wanted : Bool,
      let s := trainSent kind entry early wanted
      let g := s.gate 0
      g.state = .pulsing ∧ g.phase = .gap ∧ g.phaseTimer = some 0 ∧ g.place = some ⟨0, 0, 0, 0⟩ ∧
        (s.port 0).profile = some board ∧ g.planned ≤ g.begun ∧ g.kind = kind ∧ g.entry = entry ∧ g.early = early ∧
        0 < (s.port 0).counters.length ∧ s.servicePending = false ∧ s.cutover.record = none ∧
        (slot (s.port 0).arbiters 0).waiting = (if wanted then [1] else []) ∧
        (wanted = true → (s.gate 1).place = some ⟨0, 1, 0, 0⟩ ∧ slot board.lockout 0 = none) := by decide

/-- The next in line is gate 2 at that line, the lockout named and asserted or not; and a service funding ends in no cutover, or
in a HOLD that gate 2 keeps waiting. -/
theorem witness_EndOfGap_line :
    (∀ kind ∈ [FundingKind.ordinary, .service], ∀ entry ∈ [(none : Option OutputNo), some 0], ∀ early wanted : Bool,
      NextInLine (trainSent kind entry early wanted) 0 ⟨0, 0, 0, 0⟩) ∧
    (let s := lockedOut (trainSent .ordinary none false true)
     NextInLine s 0 ⟨0, 0, 0, 0⟩ ∧ (s.gate 0).state = .pulsing ∧ (s.gate 0).phase = .gap ∧ (s.gate 0).phaseTimer = some 0 ∧
        (s.gate 0).planned ≤ (s.gate 0).begun ∧
        lineLockedOut (s.port 0) { board with lockout := #v[some 0, none, none, none] } 0 = true) ∧
    ((inCutover (trainSent .service none false true)).gate 1).state ≠ .idle :=
  ⟨by decide, by decide, by decide⟩

theorem witness_HoldWaits : HoldWaits (trainSent .service none false true) 0 ∧
    HoldWaits (inCutover (trainSent .service none false true)) 0 :=
  ⟨fun r h => (nomatch (show (none : Option Record) = some r from h)), fun _ _ _ => ⟨1, by decide, by decide⟩⟩

/-- 06 R94, R96: a line passed on while its lockout is asserted leaves the next gate holding for it. -/
theorem test_line_passed_to_hold :
    let u := after (.endOfGap 0) (lockedOut (trainSent .ordinary none false true))
    (u.gate 1).phase = .lockoutHold ∧ (u.gate 1).lockoutTimer = some 1000 ∧
      slot (u.port 0).arbiters 0 = ⟨some 1, []⟩ := by decide

/-- 06 R95: a train ended with no confirm source presses the start; with one it waits for the pulses. -/
theorem test_train_ends :
    ((after (.endOfGap 0) (trainSent .ordinary none false false)).gate 0).state = .pressing ∧
    ((after (.endOfGap 0) (trainSent .ordinary (some 0) false true)).gate 0).state = .confirming ∧
    ((after (.endOfGap 0) (trainSent .ordinary (some 0) false true)).gate 1).state = .pulsing := by decide

theorem witness_LockoutEdges : waitsForLockout (lockedOut (sending .lockoutHold 1)) 0 0 0 = true ∧
    waitsForLockout (lockedOut (sending .gap 1)) 0 0 0 = false := by decide

theorem witness_LockedOutAborts :
    let s := { sending .lockoutHold 1 with accounts := #v[14880, 0, 0, 0] }
    let g := s.gate 0
    g.state = .pulsing ∧ g.phase = .lockoutHold ∧ g.lockoutTimer = some 0 ∧ g.place = some ⟨0, 0, 0, 0⟩ ∧
      (s.port 0).profile = some board ∧ g.paying = some 0 ∧ s.servicePending = false ∧ s.cutover.record = none ∧
      (slot (s.port 0).arbiters 0).waiting = [] ∧ s.balance 0 + g.inFlight ≤ 15000 := by decide

/-- Gate 1 locked out of a line that gate 2 waits for, its refund at the cap and past it. -/
theorem witness_LockedOutAborts_line : ∀ ticks ∈ [14880, 14881],
    let s := { trainSent .ordinary (some 0) false true with accounts := #v[ticks, 0, 0, 0] }
    let u := modGate 0 (fun g => { g with phase := .lockoutHold, lockoutTimer := some 0 }) s
    let g := u.gate 0
    g.state = .pulsing ∧ g.phase = .lockoutHold ∧ g.lockoutTimer = some 0 ∧ g.place = some ⟨0, 0, 0, 0⟩ ∧
      (u.port 0).profile = some board ∧ u.servicePending = false ∧ u.cutover.record = none ∧ NextInLine u 0 ⟨0, 0, 0, 0⟩ ∧
      (slot (u.port 0).arbiters 0).waiting.head? = some 1 ∧ g.paying = some 0 ∧ u.balance 0 = ticks ∧ g.inFlight = 120 ∧
      g.entry = some 0 := by decide

/-- Port 1 LIVE, gate 1 as given, an activation of METER 1 measured, and its expectation queue. -/
def counting (s : State) (q : List Expectation) : State :=
  modPort 0 (fun pt => { pt with
    meterIn := #v[⟨true, some 0⟩, ⟨false, none⟩]
    expect := #v[q, []] }) s

theorem witness_BoardMeters :
    ((playing.port 0).state = .live ∧ (slot (playing.port 0).meterIn 0).active = false) ∧
    (((asked .run).port 0).state ≠ .live) ∧
    (slot ((counting playing []).port 0).meterIn 0).active = true ∧
    (let s := counting playing []
     (s.port 0).state = .live ∧ (slot (s.port 0).meterIn 0).timer = some 0 ∧ slot (s.port 0).expect 0 = []) ∧
    (let s := counting (sending .gap 1) [⟨0, 2⟩]
     (s.port 0).state = .live ∧ (slot (s.port 0).meterIn 0).timer = some 0 ∧ slot (s.port 0).expect 0 = [⟨0, 2⟩] ∧ 1 < 2) ∧
    (let s := counting (sending .gap 1) [⟨0, 1⟩]
     (s.port 0).state = .live ∧ (slot (s.port 0).meterIn 0).timer = some 0 ∧ slot (s.port 0).expect 0 = [⟨0, 1⟩] ∧
        (s.gate 0).state = .pulsing) := by decide

/-- Gate 1 CONFIRMING its last pulse, for an ordinary funding or a service credit. -/
def lastPulse (kind : FundingKind) : State :=
  modGate 0 (fun g => { g with kind := kind }) (counting (funding { idleGate with state := .confirming, confirmTimer := some 9 }) [⟨0, 1⟩])

theorem witness_BoardMeters_confirming :
    ∀ kind ∈ [FundingKind.ordinary, .service],
      let s := lastPulse kind
      (s.port 0).state = .live ∧ (slot (s.port 0).meterIn 0).timer = some 0 ∧ slot (s.port 0).expect 0 = [⟨0, 1⟩] ∧
        (s.gate 0).kind = kind ∧ (s.gate 0).state = .confirming ∧ (s.gate 0).place = some ⟨0, 0, 0, 0⟩ ∧
        (s.port 0).profile = some board ∧ 0 < (s.port 0).counters.length ∧ s.servicePending = false ∧
        s.cutover.record = none := by decide

/-- 06 R98, R106: the last pulse presses an ordinary start, and ends a service credit. -/
theorem test_last_pulse : ((after (.boardMeterPulse 0 0) (lastPulse .ordinary)).gate 0).state = .pressing ∧
    (after (.boardMeterPulse 0 0) (lastPulse .service)).gate 0 = idleGate := by decide

/-- Gate 1 CONFIRMING with its timer run out and two pulses outstanding, the port's miss streak as given. -/
def missing (streak : Nat) : State :=
  modPort 0 (fun pt => { pt with missStreak := streak })
    (counting (funding { idleGate with state := .confirming, confirmTimer := some 0 }) [⟨0, 2⟩])

theorem witness_ConfirmMissed :
    (∀ k ∈ [0, 1, 2],
      let s := missing k
      let g := s.gate 0
      g.state = .confirming ∧ g.confirmTimer = some 0 ∧ g.kind = .ordinary ∧ g.place = some ⟨0, 0, 0, 0⟩ ∧
        g.entry = some 0 ∧ (s.port 0).profile = some board ∧ slot (s.port 0).expect 0 = [⟨0, 2⟩] ∧
        (s.port 0).missStreak = k ∧ 0 < (s.port 0).counters.length) ∧
    (let s := modGate 0 (fun g => { g with kind := .service }) (missing 2)
     (s.gate 0).kind = .service ∧ (s.gate 0).state = .confirming ∧ (s.gate 0).confirmTimer = some 0 ∧
        (s.gate 0).place = some ⟨0, 0, 0, 0⟩ ∧ (s.gate 0).entry = some 0 ∧ (s.port 0).profile = some board ∧
        slot (s.port 0).expect 0 = [⟨0, 2⟩] ∧ s.servicePending = false ∧ s.cutover.record = none) := by decide

/-- A missed entry behind that of gate 2. -/
theorem witness_ConfirmMissed_behind :
    let s := counting (missing 0) [⟨1, 1⟩, ⟨0, 2⟩]
    (s.gate 0).state = .confirming ∧ (s.gate 0).confirmTimer = some 0 ∧ (s.gate 0).kind = .ordinary ∧
      (s.gate 0).place = some ⟨0, 0, 0, 0⟩ ∧ (s.gate 0).entry = some 0 ∧ (s.port 0).profile = some board ∧
      0 < (s.port 0).counters.length ∧ (slot (s.port 0).expect 0).find? (fun x => x.station == 0) = some ⟨0, 2⟩ := by decide

theorem witness_PressAndGuardEnd :
    (∀ guard ∈ [2, 0],
      let s := modPort 0 (fun pt => { pt with profile := some { board with playGuard := guard } })
        (funding { idleGate with state := .pressing, pressTimer := some 0 })
      let g := s.gate 0
      g.state = .pressing ∧ g.pressTimer = some 0 ∧ g.place = some ⟨0, 0, 0, 0⟩ ∧
        (s.port 0).profile = some { board with playGuard := guard } ∧ slot board.stationMap 0 = some 0 ∧
        s.servicePending = false ∧ s.cutover.record = none ∧ g.kind = .ordinary ∧ PassedRight s) ∧
    ((modGate 0 (fun g => { g with guardTimer := some 0 }) playing).gate 0).guardTimer = some 0 := by decide

/-- Gate 1 at the end of its press, a cutover to MENU in HOLD or none, a service pending or not. -/
def pressEnding (cut service : Bool) (s : State) : State :=
  let u := modGate 0 (fun _ => { (funding idleGate).gate 0 with state := .pressing, pressTimer := some 0 }) s
  { (if cut then inCutover u else u) with servicePending := service }

/-- 06 R91, R101: a START pressed while its gate presses is ignored; still held when the press ends and the guard starts, it is
not passed to the board. A START pressed under the guard is. -/
theorem test_start_not_remembered :
    let busy := pressEnding false false playing
    let u := after (.pressTimerExpiry 0) (after (.debouncedChange (startOf 0)) (pressed 0 busy))
    let v := after (.debouncedChange (startOf 0)) (pressed 0 (after (.pressTimerExpiry 0) busy))
    ((u.gate 0).guardTimer = some 2000 ∧ slot u.router.level (startOf 0) = true ∧ startLine u 0 0 = false) ∧
      (v.gate 0).guardTimer = some 2000 ∧ startLine v 0 0 = true := by decide

/-- In HOLD with gate 2 busy, and with every other gate IDLE. -/
theorem witness_PressAndGuardEnd_hold :
    (∀ s ∈ [pressEnding true false playing, pressEnding true false (modGate 1 (fun g => { g with state := .waiting }) playing)],
      (s.gate 0).state = .pressing ∧ (s.gate 0).pressTimer = some 0 ∧ (s.gate 0).place = some ⟨0, 0, 0, 0⟩ ∧
        (s.port 0).profile = some board ∧ s.servicePending = false ∧ s.cutover.record = some ⟨.hold, .port 0, .menu⟩) ∧
    ((pressEnding true false (modGate 1 (fun g => { g with state := .waiting }) playing)).gate 1).state ≠ .idle ∧
    (let s := pressEnding true false playing
     (∀ g, g ≠ 0 → (s.gate g).state = .idle) ∧ s.cutover.level < 15 ∧
        0 < s.settings.soundRamp / (15 - s.cutover.level)) := by decide

/-- A service pending at the end of the press, with room on the board, and with 7 of its 9 credits there. -/
theorem witness_PressAndGuardEnd_service :
    (∀ s ∈ [pressEnding false true playing,
        pressEnding false true (modPort 0 (fun pt => { pt with counters := [⟨[⟨.account 0, 7, 40⟩], []⟩] }) playing)],
      (s.gate 0).state = .pressing ∧ (s.gate 0).pressTimer = some 0 ∧ (s.gate 0).place = some ⟨0, 0, 0, 0⟩ ∧
        s.servicePending = true ∧ s.cutover.record = none ∧ livePort s = some 0 ∧ (s.port 0).profile = some board ∧
        positionOf board 0 = some 0) ∧
    (let s := pressEnding false true playing
     let pl := placeOf board 0 0
     committed (counterAt s pl) + board.k ≤ board.creditMax ∧ pl.counter < (s.port 0).counters.length ∧
        (slot (s.port 0).arbiters pl.line).holder = none ∧ slot board.lockout pl.line = none) ∧
    (let s := pressEnding false true (modPort 0 (fun pt => { pt with counters := [⟨[⟨.account 0, 7, 40⟩], []⟩] }) playing)
     board.creditMax < committed (counterAt s (placeOf board 0 0)) + board.k) := by decide

/-! ### Witnesses: routing and cutover -/

/-- Cabinet control `c` at the end of the debounce of its release. -/
def released (c : Control) : State :=
  { playing with
    router := { playing.router with
      level := setSlot playing.router.level c true
      timers := setSlot playing.router.timers c (some 0) } }

/-- Service credit enabled. -/
def serving (s : State) : State := { s with settings := { s.settings with serviceEnabled := true } }

/-- A service credit whose coin line gate 2 holds: pending at the end of the press of gate 1, and asked for while it is IDLE. -/
theorem witness_service_line_held :
    let holding (s : State) : State := modPort 0 (fun pt => { pt with arbiters := setSlot pt.arbiters 0 ⟨some 1, []⟩ }) s
    (let s := holding (pressEnding false true playing)
     (s.gate 0).state = .pressing ∧ (s.gate 0).pressTimer = some 0 ∧ s.servicePending = true ∧ s.cutover.record = none ∧
        livePort s = some 0 ∧ (s.port 0).profile = some board ∧
        committed (counterAt s (placeOf board 0 0)) + board.k ≤ board.creditMax ∧
        (slot (s.port 0).arbiters (placeOf board 0 0).line).holder = some 1) ∧
    (let s := held 44 (serving (holding playing))
     PressDue s 44 ∧ livePort s = some 0 ∧ (s.port 0).profile = some board ∧ s.settings.serviceEnabled = true ∧
        s.cutover.record = none ∧ s.servicePending = false ∧ (s.gate 0).state = .idle ∧
        committed (counterAt s (placeOf board 0 0)) + board.k ≤ board.creditMax ∧
        (slot (s.port 0).arbiters (placeOf board 0 0).line).holder = some 1) := by decide

theorem witness_DebouncedLevels :
    (slot (released 0).router.timers 0 = some 0 ∧ slot (released 0).router.raw 0 = false ∧
      (released 0).settings.chordFirst ≠ 0 ∧ (released 0).settings.chordSecond ≠ 0) ∧
    (∀ i ∈ [(0 : Fin 11), 9], PressDue (held (controlOf 0 i) (guarded playing)) (controlOf 0 i) ∧ i.val < 10 ∧
      livePort (held (controlOf 0 i) (guarded playing)) = some 0 ∧
      ((held (controlOf 0 i) (guarded playing)).port 0).profile = some board) := by decide

/-- The exit chord on station 1's START and station 1's B6, with B6 held and the detection in a state. -/
def chordHalf (st : ChordState) : State :=
  { playing with
    settings := { playing.settings with chordEnable := true, chordFirst := startOf 0, chordSecond := controlOf 0 9 }
    router := { playing.router with level := setSlot playing.router.level (controlOf 0 9) true, chord := st } }

/-- The second chord control pressed, and the first released in TIMING and in FIRED. -/
theorem witness_DebouncedLevels_chord :
    (let s := pressed 0 (chordHalf .idle)
     PressDue s (startOf 0) ∧ s.settings.chordEnable = true ∧ s.router.chord = .idle ∧ controlOf 0 9 ≠ startOf 0 ∧
        slot s.router.level (controlOf 0 9) = true ∧ s.settings.chordFirst = startOf 0 ∧
        s.settings.chordSecond = controlOf 0 9) ∧
    (∀ st ∈ [ChordState.timing, .fired],
      let s := { chordHalf st with
        router := { (chordHalf st).router with timers := setSlot (chordHalf st).router.timers (controlOf 0 9) (some 0) } }
      slot s.router.timers (controlOf 0 9) = some 0 ∧ slot s.router.raw (controlOf 0 9) = false ∧
        s.settings.chordSecond = controlOf 0 9 ∧ slot s.router.level (controlOf 0 9) = true) := by decide

/-- 07 R124, R112: the second press starts TIMING for the chord hold, and the START press is taken all the same. -/
theorem test_chord_starts :
    let u := after (.debouncedChange (startOf 0)) (pressed 0 (chordHalf .idle))
    u.router.chord = .timing ∧ u.router.chordTimer = some (chordHalf .idle).settings.chordHold ∧
      (u.gate 0).state = .pulsing := by decide

/-- A press of TEST: with no port routed, by a route, by test pass, and by neither. -/
theorem witness_DebouncedLevels_test :
    (PressDue (held 45 (asked .run)) 45 ∧ (held 45 (asked .run)).router.routed = none) ∧
    (let s := held 45 (modPort 0 (fun pt => { pt with routes := [⟨2, .control 45⟩] }) playing)
     PressDue s 45 ∧ s.router.routed = some 0 ∧ (s.port 0).profile = some board ∧ slot s.router.marks 45 = false ∧
        ∃ r ∈ (s.port 0).routes, r.source = .control 45) ∧
    (let s := held 45 (modPort 0 (fun pt => { pt with profile := some { board with testPass := true } }) playing)
     PressDue s 45 ∧ (s.port 0).profile = some { board with testPass := true } ∧ s.router.routed = some 0) ∧
    (let s := held 45 playing
     PressDue s 45 ∧ s.router.routed = some 0 ∧ (s.port 0).profile = some board ∧ board.testPass = false ∧
        ∀ r ∈ (s.port 0).routes, r.source ≠ .control 45) := by decide

/-- A press of SERVICE with service credit enabled: with no port LIVE, on a busy gate 1, with room on the board, and with 7 of
its 9 credits there. -/
theorem witness_DebouncedLevels_service :
    (PressDue (held 44 (asked .run)) 44 ∧ livePort (held 44 (asked .run)) = none) ∧
    (∀ s ∈ [held 44 (serving (sending .gap 1)), held 44 (serving playing)],
      PressDue s 44 ∧ livePort s = some 0 ∧ (s.port 0).profile = some board ∧ s.settings.serviceEnabled = true ∧
        s.cutover.record = none ∧ s.servicePending = false) ∧
    positionOf board 0 = some 0 ∧ ((held 44 (serving (sending .gap 1))).gate 0).state ≠ .idle ∧
    (let s := held 44 (serving playing)
     let pl := placeOf board 0 0
     (s.gate 0).state = .idle ∧ committed (counterAt s pl) + board.k ≤ board.creditMax ∧
        pl.counter < (s.port 0).counters.length ∧ (slot (s.port 0).arbiters pl.line).holder = none ∧
        slot board.lockout pl.line = none) ∧
    (let s := held 44 (serving (modPort 0 (fun pt => { pt with counters := [⟨[⟨.account 0, 7, 40⟩], []⟩] }) playing))
     PressDue s 44 ∧ livePort s = some 0 ∧ (s.gate 0).state = .idle ∧
        board.creditMax < committed (counterAt s (placeOf board 0 0)) + board.k) := by decide

theorem witness_LinesHeldOnlyWhenRunning :
    (let s := { playing with router := { playing.router with level := setSlot playing.router.level 0 true } }
     isStart 0 = false ∧ controlLine s 0 0 = true ∧ resolve (s.port 0) 0 = .source (.control 0) ∧
        (s.port 0).profile = some board ∧ ofStation 0 = some (0, 0) ∧ 0 < board.positions) ∧
    (let s := modPort 0 (fun pt => { pt with routes := [⟨45, .alwaysHeld⟩, ⟨46, .alwaysReleased⟩] })
        (withBoard 0 .booting (asked .run))
     (isStart 45 = false ∧ controlLine s 0 45 = true ∧ resolve (s.port 0) 45 = .source .alwaysHeld ∧ ofStation 45 = none) ∧
        isStart 46 = false ∧ resolve (s.port 0) 46 = .source .alwaysReleased ∧ (s.port 0).profile = some board) ∧
    ((playing.port 0).profile = some board ∧ (0 : Position).val < board.positions ∧ slot board.stationMap 0 = some 0) ∧
    slot { board with positions := 2 }.stationMap 1 = none := by decide

/-- The exit chord's timer run out. -/
def chordDueIn (s : State) : State := { s with router := { s.router with chord := .timing, chordTimer := some 0 } }

theorem witness_ChordFires :
    (let s := chordDueIn (asked .run)
     s.router.chord = .timing ∧ s.router.chordTimer = some 0 ∧ s.cutover.live = .menu) ∧
    (let s := chordDueIn (sending .gap 1)
     s.router.chord = .timing ∧ s.router.chordTimer = some 0 ∧ s.cutover.live = .port 0 ∧ s.cutover.record = none ∧
        s.cutover.pendingSel = none ∧ s.straps.bands.has s.settings.menuBand = true ∧ gatesQuiet s = false) := by decide

/-- The chord fires on a board with the gates idle, nothing or port 4 pending; with MENU pending already; and in a cutover to MENU
and to port 8, port 4 pending. -/
theorem witness_ChordFires_port :
    (∀ x ∈ [none, some Crosspoint.menu, some (.port 3)], ∀ r ∈ [none, some ⟨.hold, .port 0, .menu⟩,
        some ⟨.mute, .port 0, .port 7⟩],
      let s := chordDueIn { playing with cutover := { playing.cutover with pendingSel := x, record := r } }
      s.router.chord = .timing ∧ s.router.chordTimer = some 0 ∧ s.cutover.live = .port 0 ∧ s.cutover.record = r ∧
        s.cutover.pendingSel = x) ∧
    (playing.straps.bands.has playing.settings.menuBand = true ∧ gatesQuiet playing = true ∧ playing.cutover.level < 15 ∧
      0 < playing.settings.soundRamp / (15 - playing.cutover.level)) := by decide

/-- Port 8 in a state, a monitor locked in band L, and a pending selection. -/
def choosing (st : PortState) (x : Option Crosspoint) (s : State) : State :=
  let u := modPort 7 (fun pt => { pt with monitor := lockedMonitor }) (withBoard 7 st s)
  { u with cutover := { u.cutover with pendingSel := x } }

theorem witness_Select :
    (8 < (9 : Byte).toNat ∧ (8 : Byte).toNat ≤ 8 ∧ 1 < (2 : Byte).toNat) ∧
    (let s := asked .run
     Takes s ∧ s.mode = .run ∧ (1 : Byte).toNat ≤ 1 ∧ s.cutover.record = none ∧ s.cutover.live = .menu) ∧
    (let s := modPort 7 (fun pt => { pt with check := true }) (withBoard 7 .off (asked .run))
     (s.port 7).profile ≠ none ∧ (s.port 7).check = true ∧ (s.port 7).state ≠ .absent) ∧
    (∀ st ∈ [PortState.queued, .powering, .booting, .stopping], ∀ x ∈ [none, some Crosspoint.menu, some (.port 3)],
      let s := choosing st x playing
      Takes s ∧ s.mode = .run ∧ (s.port 7).profile ≠ none ∧ (s.port 7).state = st ∧ (s.port 7).check = false ∧
        s.cutover.record = none ∧ s.cutover.live ≠ .port 7 ∧ s.cutover.pendingSel ≠ some (.port 7)) ∧
    (let s := { playing with cutover := { playing.cutover with record := some ⟨.hold, .port 0, .port 7⟩, pendingSel := some .menu } }
     Takes s ∧ s.mode = .run ∧ s.cutover.record = some ⟨.hold, .port 0, .port 7⟩ ∧
        ((choosing .parked none s).port 7).profile ≠ none) := by decide

/-- SELECT of an ABSENT port, and of one without a profile. -/
theorem witness_Select_refused : (Takes (asked .run) ∧ (asked .run).mode = .run ∧ (1 : Byte).toNat ≤ 1) ∧
    ((withBoard 7 .absent (asked .run)).port 7).state = .absent ∧
    (((asked .run).port 7).state ≠ .absent ∧ ((asked .run).port 7).profile = none) := by decide

/-- MENU selected from a board: with MENU the target of the cutover in flight, the pending selection, and neither; and with no
cutover in flight, with the gates idle and with a busy gate. -/
theorem witness_Select_menu :
    (∀ s ∈ [inCutover playing, { playing with cutover := { playing.cutover with pendingSel := some .menu } },
        { playing with cutover := { playing.cutover with record := some ⟨.hold, .port 0, .port 7⟩ } }, playing, sending .gap 1],
      Takes s ∧ s.mode = .run ∧ s.cutover.live ≠ .menu) ∧
    (inCutover playing).cutover.record = some ⟨.hold, .port 0, .menu⟩ ∧ playing.cutover.pendingSel ≠ some .menu ∧
    (∀ s ∈ [playing, sending .gap 1], s.cutover.record = none ∧ s.cutover.pendingSel ≠ some .menu ∧
      s.straps.bands.has s.settings.menuBand = true ∧ s.cutover.level < 15 ∧
      0 < s.settings.soundRamp / (15 - s.cutover.level)) ∧
    gatesQuiet playing = true ∧ gatesQuiet (sending .gap 1) = false := by decide

/-- A board shown already, a port that is the pending selection, and a PARKED one during a cutover to another. -/
theorem witness_Select_shown :
    (Takes playing ∧ playing.mode = .run ∧ (playing.port 0).profile = some board ∧ (playing.port 0).check = false ∧
      (playing.port 0).state ≠ .absent ∧ playing.cutover.record = none ∧ playing.cutover.live = .port 0) ∧
    (let s := choosing .booting (some (.port 7)) playing
     s.cutover.pendingSel = some (.port 7) ∧ s.cutover.record = none ∧ s.cutover.live ≠ .port 7 ∧
        (s.port 7).check = false) ∧
    (let s := inCutover (choosing .parked none playing)
     s.cutover.record = some ⟨.hold, .port 0, .menu⟩ ∧ s.cutover.pendingSel ≠ some (.port 7) ∧
        (s.port 7).state = .parked) := by decide

/-- An OFF port 8: with room and a slot, behind two POWERING ports, and where no eviction makes room. -/
theorem witness_Select_off :
    (let s := choosing .off none playing
     Takes s ∧ s.mode = .run ∧ (s.port 7).profile = some board ∧ (s.port 7).state = .off ∧ (s.port 7).check = false ∧
        s.powerQueue = [] ∧ poweringCount s < 2 ∧ runningLoad s + board.load ≤ s.settings.powerBudget) ∧
    (let s := busySequencer .off
     Takes s ∧ (s.port 7).state = .off ∧ 2 ≤ poweringCount s ∧ s.cutover.pendingSel ≠ some (.port 7)) ∧
    (let s := crowded true false
     let waiting : State := { superseding { s with ports := setSlot s.ports 7 { s.port 7 with check := false } } with
       cutover := { s.cutover with pendingSel := some (.port 7) } }
     (s.port 7).state = .off ∧ s.powerQueue = [] ∧ poweringCount s < 2 ∧ s.cutover.pendingSel ≠ some (.port 7) ∧
        s.cutover.record = none ∧ s.cutover.live ≠ .port 7 ∧
        s.settings.powerBudget + loadFreed waiting (evictees waiting).length < runningLoad s + board.load) := by decide

/-- A PARKED port 8 in band L: with band H alone strapped; with a busy gate; and with the gates idle, from a board and from
MENU. -/
theorem witness_Select_starts :
    (∀ s ∈ [choosing .parked (some .menu) { playing with straps := ⟨8, ⟨false, false, true⟩⟩ },
        choosing .parked none (sending .gap 1), choosing .parked (some (.port 3)) playing,
        choosing .parked none (asked .run)],
      Takes s ∧ s.mode = .run ∧ (s.port 7).profile ≠ none ∧ (s.port 7).state = .parked ∧ (s.port 7).check = false ∧
        (s.port 7).monitor.frozen = some .l ∧ s.cutover.record = none ∧ s.cutover.live ≠ .port 7 ∧
        s.cutover.pendingSel ≠ some (.port 7) ∧ s.cutover.level < 15 ∧
        0 < s.settings.soundRamp / (15 - s.cutover.level)) ∧
    ({ playing with straps := ⟨8, ⟨false, false, true⟩⟩ }).straps.bands.has .l = false ∧
    ((sending .gap 1).straps.bands.has .l = true ∧ gatesQuiet (sending .gap 1) = false) ∧
    (playing.straps.bands.has .l = true ∧ gatesQuiet playing = true ∧ playing.cutover.live = .port 0) ∧
    (asked .run).straps.bands.has .l = true ∧ gatesQuiet (asked .run) = true ∧ (asked .run).cutover.live = .menu := by decide

/-- Port 1 LIVE and a cutover from it to port 8, PARKED, in a phase. -/
def cuttingOver (ph : CutoverPhase) : State :=
  let s := modPort 7 (fun pt => { pt with monitor := lockedMonitor }) (withBoard 7 .parked playing)
  { s with
    recency := [0, 7]
    cutover := { s.cutover with
      record := some ⟨ph, .port 0, .port 7⟩
      blank := true
      level := 15
      settleTimer := some 0 } }

/-- A ramp at its step, from one level to another. -/
def ramping (level target : Nat) : State :=
  { cuttingOver .shown with
    cutover := { (cuttingOver .shown).cutover with
      blank := false
      level := level
      ramp := some ⟨target, 16, 0⟩ } }

/-- A cutover to MENU at the end of its settle, port 1 LIVE with a leave action. -/
def leaving (l : LeaveAction) : State :=
  let s := modPort 0 (fun pt => { pt with profile := some { board with leave := l } }) (cuttingOver .band)
  { s with cutover := { s.cutover with record := some ⟨.band, .port 0, .menu⟩ } }

/-- The last step of MUTE of a cutover to port 8, in band L, the band lines at a band. -/
def muting (b : Band) : State :=
  { cuttingOver .mute with
    cutover := { (cuttingOver .mute).cutover with band := b, level := 14, ramp := some ⟨15, 16, 0⟩, settleTimer := none } }

theorem witness_SettleAndRamp :
    ((cuttingOver .band).cutover.settleTimer = some 0 ∧
      (cuttingOver .band).cutover.record = some ⟨.band, .port 0, .port 7⟩) ∧
    (∀ l ∈ [LeaveAction.park, .stop],
      let s := leaving l
      s.cutover.settleTimer = some 0 ∧ s.cutover.record = some ⟨.band, .port 0, .menu⟩ ∧
        s.settings.menuTrim < s.cutover.level ∧ 0 < s.settings.soundRamp / (s.cutover.level - s.settings.menuTrim) ∧
        (s.port 0).state = .live ∧ (s.port 0).profile = some { board with leave := l } ∧ gatesQuiet s = true) ∧
    (let c := (ramping 3 5).cutover
     c.ramp = some ⟨5, 16, 0⟩ ∧ c.level + 1 < 5) ∧
    (let c := (ramping 15 13).cutover
     c.ramp = some ⟨13, 16, 0⟩ ∧ 13 + 1 < c.level) ∧
    (let c := (ramping 4 3).cutover
     c.ramp = some ⟨3, 16, 0⟩ ∧ c.level = 3 + 1 ∧ c.record = some ⟨.shown, .port 0, .port 7⟩ ∧ c.blank = false ∧
        c.pendingSel = none) := by decide

/-- SHOW of MENU with steps to make, and with none and nothing pending; from a board that is LIVE, and from one that stopped. -/
theorem witness_SettleAndRamp_shown :
    (∀ s ∈ [leaving .park, leaving .stop, withBoard 0 .stopping (leaving .park)],
      s.cutover.settleTimer = some 0 ∧ s.cutover.record = some ⟨.band, .port 0, .menu⟩ ∧
        0 < rampTime s s.settings.menuTrim) ∧
    (let s := { leaving .park with cutover := { (leaving .park).cutover with level := 0 } }
     s.cutover.settleTimer = some 0 ∧ s.cutover.record = some ⟨.band, .port 0, .menu⟩ ∧
        rampTime s s.settings.menuTrim = 0 ∧ s.cutover.pendingSel = none) ∧
    ((withBoard 0 .stopping (leaving .park)).port 0).state ≠ .live := by decide

theorem witness_SettleAndRamp_mute :
    (∀ b ∈ [Band.l, .m],
      let s := muting b
      s.cutover.ramp = some ⟨15, 16, 0⟩ ∧ s.cutover.level = 14 ∧ s.cutover.record = some ⟨.mute, .port 0, .port 7⟩ ∧
        (s.port 7).monitor.frozen = some .l ∧ s.cutover.band = b ∧ s.cutover.settleTimer = none) ∧
    Band.l ≠ .m ∧ (muting .m).settings.monitorSettle ≠ 0 ∧
    { (muting .m).settings with monitorSettle := 0 }.monitorSettle = 0 := by decide

theorem witness_ShowPutsTheTargetOn :
    (∀ l ∈ [LeaveAction.park, .stop],
      let s := modPort 0 (fun pt => { pt with profile := some { board with leave := l } }) (cuttingOver .align)
      (7 : PortNo) ≠ 0 ∧ s.cutover.record = some ⟨.align, .port 0, .port 7⟩ ∧ s.cutover.blank = true ∧
        (s.port 0).state = .live ∧ (s.port 0).profile = some { board with leave := l } ∧ gatesQuiet s = true) ∧
    (let s := { cuttingOver .align with
        cutover := { (cuttingOver .align).cutover with live := .menu, record := some ⟨.align, .menu, .port 7⟩ } }
     s.cutover.record = some ⟨.align, .menu, .port 7⟩ ∧ s.cutover.blank = true) ∧
    (∀ tr ∈ [0, 14, 15],
      let s := modPort 7 (fun pt => { pt with profile := some { board with trim := tr } }) (cuttingOver .shown)
      s.cutover.record = some ⟨.shown, .port 0, .port 7⟩ ∧ s.cutover.blank = true ∧
        (s.port 7).profile = some { board with trim := tr } ∧ s.cutover.pendingSel = none ∧ s.cutover.level = 15 ∧
        (tr < 15 → 0 < s.settings.soundRamp / (s.cutover.level - tr))) ∧
    (∀ r, playing.cutover.record = some r → r.target ≠ .port 0) :=
  ⟨by decide, by decide, by decide, fun _ h => nomatch (show (none : Option Record) = some _ from h)⟩

/-! ### Witnesses: reports and invariants -/

theorem witness_EventsAndAuditsRead :
    (Takes (asked .run) ∧ (asked .run).events.length ≤ 32) ∧
    ((modPort 0 (fun pt => { pt with audits := { pt.audits with secondDue := true } }) playing).port 0).audits.secondDue =
      true := by decide

theorem witness_AttnFollowsTheQueue : Takes (asked .run) := by decide

theorem witness_Rates : ({ lockedMonitor with reported := some ⟨509, 262⟩ }).reported = some ⟨509, 262⟩ ∧
    ({ lockedMonitor with last := some (.closed ⟨0, 0, none, false⟩) }).last = some (.closed ⟨0, 0, none, false⟩) := by decide

theorem witness_ReportsOnlyReport : Takes playing ∧ (playing.port 0).state ≠ .absent ∧ (playing.port 7).state ≠ .absent ∧
    Takes (withBoard 7 .absent playing) ∧ ((withBoard 7 .absent playing).port 7).state = .absent ∧ 8 < (9 : Byte).toNat ∧
    (0 : Byte).toNat = 0 := by decide

/-- The invariants hold of the state after reset, and a step leaves it: the hypotheses of every StepKeeps statement. -/
theorem witness_StepKeepsFiguresInRange : BalancesCapped State.reset ∧ MetersRight State.reset ∧ EventsBounded State.reset ∧
    ∃ t, step State.reset = .next t := ⟨by decide, by decide, by decide, _, rfl⟩

theorem witness_StepKeepsCoilsRight : CoilsRight State.reset ∧ ∃ t, step State.reset = .next t := ⟨by decide, _, rfl⟩

theorem witness_StepKeepsBoardsRight : BoardsRight balanced ∧ ∃ t, step balanced = .next t := ⟨balanced_boards, _, rfl⟩

theorem witness_StepKeepsTheMoney : (BoardsRight balanced ∧ FundingRight balanced ∧ BalancesCapped balanced) ∧
    MoneyLaw balanced ∧ CreditsRight balanced ∧ ExpectRight balanced ∧
    (∀ c ∈ balanced.pending.head?, ¬ setsBackAudits c) ∧ ∃ t, step balanced = .next t :=
  ⟨⟨balanced_boards, balanced_funding, by decide⟩, fun _ => by decide, balanced_credits, balanced_expect,
    fun _ h => (nomatch (show (none : Option Instr) = some _ from h)), _, rfl⟩

end Sys2Proof.Tests
end

section
/-! The account commands (02 R25, R27): what READ ACCOUNTS reports, and LOAD ACCOUNT with its refusals. -/

namespace Sys2Proof.Accounts

open Sys2Proof.Machine Sys2Proof.Safety

/-! ### How a taken command answers (10 R152) -/

section

variable {code : Code} {payload : List Byte} {body : State → State × Answer} {s : State} {r : Reply}

/-- The reply of a command's body is left in preparation on the state the body hands on. -/
theorem takeCommand_of_reply {t : State} (h : Takes s) (fits : code.takes payload = true)
    (replies : body (modLink (takenLink (commandFrame code payload)) s) = (t, .reply r)) :
    takeCommand code payload body s = modLink (prepare (.response (composed code.byte r))) t := by
  rw [takeCommand_of_command _ _ _ _ h fits, takenWith_of_answer _ _ _ _ _ _ replies]
  rfl

/-- A command whose body only replies changes nothing but the selector port. -/
theorem takeCommand_of_unchanged (h : Takes s) (fits : code.takes payload = true)
    (replies : body (modLink (takenLink (commandFrame code payload)) s) =
      (modLink (takenLink (commandFrame code payload)) s, .reply r)) :
    takeCommand code payload body s = answered code payload r s :=
  takeCommand_of_reply h fits replies

end

/-! ### The coils beside the selector port (01 R9, R10) -/

/-- The result of 01 R9 does not look at the selector port. -/
@[simp] theorem coilWanted_modLink (f : Link → Link) (s : State) (i : ChuteNo) :
    coilWanted (modLink f s) i = coilWanted s i := rfl

@[simp] theorem coilWanted_coilsFedBy (a : AccountNo) (s : State) (i : ChuteNo) :
    coilWanted (coilsFedBy a s) i = coilWanted s i := by
  simp [coilsFedBy]

@[simp] theorem coilIfFed_modLink (a : AccountNo) (i : ChuteNo) (f : Link → Link) (s : State) :
    coilIfFed a i (modLink f s) = modLink f (coilIfFed a i s) := rfl

@[simp] theorem coilsFedBy_modLink (a : AccountNo) (f : Link → Link) (s : State) :
    coilsFedBy a (modLink f s) = modLink f (coilsFedBy a s) := by
  simp [coilsFedBy]

/-! ### READ ACCOUNTS (02 R27) -/

/-- A table of four lists its entries in order. -/
theorem toList_eq_slots {α : Type} (v : Vector α 4) : v.toList = [slot v 0, slot v 1, slot v 2, slot v 3] := by
  apply List.ext_getElem
  · simp
  · intro i hi _
    have : i < 4 := by simpa using hi
    interval_cases i <;> simp [slot]

/-- An empty account reads 0 in every field. -/
theorem accountBytes_zero : accountBytes 0 = [0, 0, 0, 0] := by decide

/-- READ ACCOUNTS hands the state on as it stands and replies with the account mode and the four accounts. -/
theorem readAccountsBody_eq (s : State) :
    readAccountsBody s = (s, .reply ⟨.done, byte s.settings.accountMode.code ::
      (accountBytes (s.balance 0) ++ accountBytes (s.balance 1) ++ accountBytes (s.balance 2) ++
        accountBytes (s.balance 3))⟩) := by
  unfold readAccountsBody
  rw [toList_eq_slots]
  simp [done, doneReply, State.balance]

theorem exec_readAccounts {s : State} (h : Takes s) :
    exec .readAccounts s =
      .next (answered .readAccounts [] ⟨.done, byte s.settings.accountMode.code ::
        (accountBytes (s.balance 0) ++ accountBytes (s.balance 1) ++ accountBytes (s.balance 2) ++
          accountBytes (s.balance 3))⟩ s) :=
  congrArg Host.Outcome.next (takeCommand_of_unchanged h rfl (readAccountsBody_eq _))

/-- Settles O22: the snapshot is the reply of a body that changes nothing, and R19's empty accounts read 0. -/
theorem readAccounts : Obligations.ReadAccounts := by
  intro s htakes
  refine ⟨?_, fun hshared hmode a ha => ?_⟩
  · rw [exec_readAccounts htakes]
    cases s.settings.accountMode <;> rfl
  · have hempty : s.balance a = 0 := (hshared hmode).1 a ha
    show accountBytes (s.balance a) = [0, 0, 0, 0]
    rw [hempty, accountBytes_zero]

/-! ### The account a byte names (10 R160) -/

theorem quarterOf_eq_none {n : Nat} (h : n = 0 ∨ 4 < n) : quarterOf n = none :=
  dif_neg (by omega)

theorem quarterOf_succ (a : Fin 4) : quarterOf (a.val + 1) = some a :=
  dif_pos (by omega)

/-- The byte that crosses the selector port for account `a` names it. -/
theorem quarterOf_accountByte (a : AccountNo) : quarterOf (BitVec.ofNat 8 (a.val + 1)).toNat = some a := by
  have hbyte : (BitVec.ofNat 8 (a.val + 1)).toNat = a.val + 1 := by
    rw [BitVec.toNat_ofNat]
    omega
  rw [hbyte, quarterOf_succ]

/-! ### LOAD ACCOUNT (02 R25) -/

section

variable {b : Byte} {x : Half} {a : AccountNo} {s : State}

theorem loadAccountBody_of_noAccount (names : quarterOf b.toNat = none) : loadAccountBody b x s = invalid 0 s := by
  simp [loadAccountBody, names]

/-- While the account mode is SHARED, account 1 alone can be loaded. -/
theorem loadAccountBody_of_sharedOther (names : quarterOf b.toNat = some a) (shared : s.settings.accountMode = .shared)
    (other : a ≠ 0) : loadAccountBody b x s = invalid 0 s := by
  simp [loadAccountBody, names, shared, other]

theorem loadAccountBody_of_overCap (names : quarterOf b.toNat = some a)
    (own : s.settings.accountMode = .shared → a = 0) (tooMuch : Config.cap < x.toNat) :
    loadAccountBody b x s = invalid 1 s := by
  simp [loadAccountBody, names, not_and_not_right.mpr own, tooMuch]

theorem loadAccountBody_of_run (names : quarterOf b.toNat = some a) (own : s.settings.accountMode = .shared → a = 0)
    (fits : x.toNat ≤ Config.cap) (mode : s.mode = .run) : loadAccountBody b x s = refused .notSetup s := by
  simp [loadAccountBody, names, not_and_not_right.mpr own, Nat.not_lt.mpr fits, mode]

/-- In SETUP a balance in range is loaded, and DONE carries the account, its old balance and its new one. -/
theorem loadAccountBody_of_setup (names : quarterOf b.toNat = some a) (own : s.settings.accountMode = .shared → a = 0)
    (fits : x.toNat ≤ Config.cap) (mode : s.mode = .setup) :
    loadAccountBody b x s = done (b :: (be16 (s.balance a) ++ be16 x.toNat)) (loadBalance a x.toNat s) := by
  simp [loadAccountBody, names, not_and_not_right.mpr own, Nat.not_lt.mpr fits, mode]

/-- Loading changes the account, both money totals and the chutes, and nothing else. -/
theorem loadBalance_frame (a : AccountNo) (new : Nat) (s : State) :
    loadBalance a new s =
      { s with
        accounts := setSlot s.accounts a new
        totalOut := satAdd s.totalOut (s.balance a)
        totalIn := satAdd s.totalIn new
        chutes := (loadBalance a new s).chutes } := rfl

@[simp] theorem loadBalance_modLink (a : AccountNo) (new : Nat) (f : Link → Link) (s : State) :
    loadBalance a new (modLink f s) = modLink f (loadBalance a new s) := by
  unfold loadBalance
  rw [← coilsFedBy_modLink]
  rfl

/-- Loading re-evaluates the coils that look at the account, on the new balance, and changes nothing else of a chute. -/
theorem chute_loadBalance (a : AccountNo) (new : Nat) (s : State) (i : ChuteNo) :
    (loadBalance a new s).chute i =
      { s.chute i with
        coil := if accountOf s i = a then coilWanted (loadBalance a new s) i else (s.chute i).coil } := by
  unfold loadBalance
  rw [coilWanted_coilsFedBy, chute_coilsFedBy]
  rfl

/-- A LOAD ACCOUNT whose body only replies changes nothing but the selector port. -/
theorem exec_loadAccount_of_unchanged {r : Reply} (takes : Takes s)
    (replies : ∀ f : Link → Link, loadAccountBody b x (modLink f s) = (modLink f s, .reply r)) :
    exec (.loadAccount b x) s =
      .next (answered .loadAccount [b, x.extractLsb' 8 8, x.extractLsb' 0 8] r s) :=
  congrArg Host.Outcome.next (takeCommand_of_unchanged takes rfl (replies _))

/-- A LOAD ACCOUNT taken in SETUP leaves the balance loaded and DONE in preparation. -/
theorem exec_loadAccount_of_setup (takes : Takes s) (names : quarterOf b.toNat = some a)
    (own : s.settings.accountMode = .shared → a = 0) (fits : x.toNat ≤ Config.cap) (mode : s.mode = .setup) :
    exec (.loadAccount b x) s =
      .next (modLink (answeredLink .loadAccount [b, x.extractLsb' 8 8, x.extractLsb' 0 8]
        ⟨.done, b :: (be16 (s.balance a) ++ be16 x.toNat)⟩) (loadBalance a x.toNat s)) := by
  refine congrArg Host.Outcome.next ?_
  rw [takeCommand_of_reply takes rfl (loadAccountBody_of_setup names own fits mode), loadBalance_modLink]
  rfl

end

/-- Settles O23: an equation of the body for each outcome, and the frame and coils of a load. -/
theorem loadAccount : Obligations.LoadAccount := by
  intro x s htakes payload
  refine ⟨fun b hb =>
    exec_loadAccount_of_unchanged htakes fun _ => loadAccountBody_of_noAccount (quarterOf_eq_none hb), fun a => ?_⟩
  intro b
  have names : quarterOf b.toNat = some a := quarterOf_accountByte a
  refine ⟨fun hmode hfits hown => ?done, fun hmode hfits hown => ?run, fun hshared hother => ?sharedOther,
    fun hown hover => ?overCap⟩
  case done =>
    refine ⟨_, exec_loadAccount_of_setup htakes names hown hfits hmode,
      congrArg (modLink _) (loadBalance_frame a x.toNat s), fun i => ?_⟩
    rw [modLink_chute, coilWanted_modLink]
    exact chute_loadBalance a x.toNat s i
  case run => exact exec_loadAccount_of_unchanged htakes fun _ => loadAccountBody_of_run names hown hfits hmode
  case sharedOther =>
    exact exec_loadAccount_of_unchanged htakes fun _ => loadAccountBody_of_sharedOther names hshared hother
  case overCap => exact exec_loadAccount_of_unchanged htakes fun _ => loadAccountBody_of_overCap names hown hover

end Sys2Proof.Accounts
end

section
/-! READ CABINET (03 R50): what it reports, and the clamped timing fields it reports them from. -/

namespace Sys2Proof.Cabinet

open Sys2Proof.Machine Sys2Proof.Safety

/-! ### Clamping (03 section 3.4) -/

section

variable {lo hi x : Nat}

theorem clamp_eq_self (above : lo ≤ x) (below : x ≤ hi) : clamp lo hi x = x := by
  unfold clamp
  rw [if_neg (Nat.not_lt.mpr above), if_neg (Nat.not_lt.mpr below)]

theorem clamp_mem (range : lo ≤ hi) : lo ≤ clamp lo hi x ∧ clamp lo hi x ≤ hi := by
  unfold clamp
  split
  case isTrue => exact ⟨le_rfl, range⟩
  case isFalse above =>
    split
    case isTrue => exact ⟨range, le_rfl⟩
    case isFalse below => exact ⟨Nat.not_lt.mp above, Nat.not_lt.mp below⟩

/-- A clamped value lies in its range, so clamping it again leaves it. -/
theorem clamp_clamp (range : lo ≤ hi) : clamp lo hi (clamp lo hi x) = clamp lo hi x :=
  have ⟨above, below⟩ := clamp_mem (x := x) range
  clamp_eq_self above below

end

/-! ### The cabinet record (10 section 10.5) -/

/-- The record has 33 bytes, whatever the settings. -/
@[simp] theorem length_cabinetBytes (st : Settings) : (cabinetBytes st).length = 33 := by
  simp [cabinetBytes, be16]

/-! ### READ CABINET (03 R50) -/

/-- READ CABINET's body looks at neither the mode nor the selector port, and hands the state on as it stands. -/
theorem exec_readCabinet {s : State} (takes : Takes s) :
    exec .readCabinet s =
      .next (answered .readCabinet [] ⟨.done, cabinetBytes s.settings ++ [byte (bandSetCode s.straps.bands)]⟩ s) :=
  congrArg Host.Outcome.next (Accounts.takeCommand_of_unchanged takes rfl rfl)

/-- Settles O26: the reply of a body that changes nothing, and clamping again leaves what `settingsOf` clamped. -/
theorem readCabinet : Obligations.ReadCabinet := by
  intro s takes
  refine ⟨exec_readCabinet takes, length_cabinetBytes s.settings, fun r => ?clamped⟩
  and_intros
  all_goals exact clamp_clamp (by decide)

end Sys2Proof.Cabinet
end

section
/-! The rates of a sync monitor's figures (05 R88), and the two parts of a port's report that carry them (05 R89). -/

namespace Sys2Proof.Rates

open Sys2Proof.Machine Sys2Proof.Safety

/-! ### The rates (05 R88) -/

section

variable {lp f : Nat}

@[simp] theorem lineRate_zero : lineRate 0 = 0 := rfl

theorem lineRate_of_pos (measured : 1 ≤ lp) : lineRate lp = 8000000 / lp :=
  if_neg (Nat.ne_of_gt measured)

theorem frameRate_of_pos (lines : 1 ≤ lp) (frames : 1 ≤ f) : frameRate lp f = 800000000 / (lp * f) :=
  if_neg (not_or_intro (Nat.ne_of_gt lines) (Nat.ne_of_gt frames))

theorem frameRate_of_absent (absent : lp = 0 ∨ f = 0) : frameRate lp f = 0 := if_pos absent

theorem lineRate_eq (lp : Nat) : lineRate lp = if 1 ≤ lp then 8000000 / lp else 0 := by
  split
  case isTrue measured => exact lineRate_of_pos measured
  case isFalse unmeasured =>
    obtain rfl : lp = 0 := by omega
    exact lineRate_zero

theorem frameRate_eq (lp f : Nat) : frameRate lp f = if 1 ≤ lp ∧ 1 ≤ f then 800000000 / (lp * f) else 0 := by
  split
  case isTrue measured => exact frameRate_of_pos measured.1 measured.2
  case isFalse unmeasured => exact frameRate_of_absent (by omega)

end

/-! ### The reported and the last-measured part (05 R89) -/

section

variable {m : Monitor}

theorem reportedBytes_of_some {x : Figures} (reported : m.reported = some x) :
    reportedBytes m = figuresBytes x.lp x.f := by
  simp [reportedBytes, reported]

theorem lastBytes_of_closed {fr : Frame} (last : m.last = some (.closed fr)) :
    lastBytes m = [if fr.valid then 1 else 2, byte (bandCode fr.band)] ++ figuresBytes fr.lp fr.f := by
  simp [lastBytes, last]

end

/-- Settles O54: each rate by whether its figures were measured, and the figures that each part of the report is built from. -/
theorem rates : Obligations.Rates := by
  intro lp f
  refine ⟨lineRate_eq lp, frameRate_eq lp f, ?longestLine, fun _ reported => ?reported, fun _ _ _ last => ?last⟩
  case longestLine => exact lineRate_of_pos (by decide)
  case reported => exact reportedBytes_of_some reported
  case last => exact lastBytes_of_closed last

end Sys2Proof.Rates
end

section
/-! The attention line (11 R166) over the operations that fill and drain the event queue: a post and READ EVENTS. -/

namespace Sys2Proof.Attention

open Sys2Proof.Machine Sys2Proof.Safety

section

variable {s t : State}

/-! ### ATTN and the queue (11 R166) -/

theorem attn_iff : attn s = true ↔ s.events ≠ [] := by
  simp [attn]

theorem attn_iff_length_pos : attn s = true ↔ 0 < s.events.length :=
  attn_iff.trans List.length_pos_iff.symm

/-- ATTN looks at the queue alone. -/
theorem attn_congr (sameQueue : t.events = s.events) : attn t = attn s :=
  congrArg (fun queue : List EventRecord => !queue.isEmpty) sameQueue

/-! ### A post (11 R162) -/

/-- A post appends to a queue with room, and a queue without room holds records already. -/
theorem attn_post (kind : EventKind) (subject d1 d2 : Nat) (s : State) : attn (post kind subject d1 d2 s) = true := by
  rw [attn_iff_length_pos]
  by_cases room : s.events.length < Config.eventCapacity
  case pos =>
    rw [post_events_of_room kind subject d1 d2 s room, List.length_append]
    exact Nat.add_pos_right _ Nat.one_pos
  case neg =>
    rw [(post_events_of_full kind subject d1 d2 s room).1]
    have capacity_pos : 0 < Config.eventCapacity := by decide
    exact Nat.lt_of_lt_of_le capacity_pos (Nat.not_lt.mp room)

/-! ### READ EVENTS (11 R165) -/

/-- READ EVENTS removes the batch it carries and clears the overflow flag, and changes nothing else but the selector port. -/
theorem exec_readEvents (takes : Takes s) :
    exec .readEvents s =
      .next (answered .readEvents []
        ⟨.done, [byte (s.events.take Config.eventBatch).length, yesNo s.overflow] ++
          (s.events.take Config.eventBatch).flatMap eventBytes⟩
        { s with events := s.events.drop Config.eventBatch, overflow := false }) :=
  congrArg Host.Outcome.next <| calc
    takeCommand .readEvents [] readEventsBody s
    _ = modLink _ { s with
          events := s.events.drop Config.eventBatch
          overflow := false
          link := takenLink (commandFrame .readEvents []) s.link } := Accounts.takeCommand_of_reply takes rfl rfl
    _ = answered .readEvents [] _ _ := rfl

/-- Once a batch has left the queue, ATTN stays asserted exactly when there were more records than a batch holds. -/
theorem attn_iff_of_events_drop (drained : t.events = s.events.drop Config.eventBatch) :
    attn t = true ↔ Config.eventBatch < s.events.length := by
  rw [attn_iff_length_pos, drained, List.length_drop, Nat.sub_pos_iff_lt]

end

/-- Settles O53: ATTN looks at the queue alone, a post leaves a record in it, and READ EVENTS drops a batch from it. -/
theorem attnFollowsTheQueue : Obligations.AttnFollowsTheQueue := by
  intro s
  refine ⟨attn_iff, fun kind subject d1 d2 => ?post, fun _ _ => ?sameQueue, fun takes => ?readEvents⟩
  case post => exact attn_post kind subject d1 d2 s
  case sameQueue => exact attn_congr rfl
  case readEvents => exact ⟨_, exec_readEvents takes, attn_iff_of_events_drop rfl⟩

end Sys2Proof.Attention
end
